-- ==== Sys2Proof/Word.lean ====
section
/-! DEFINITION. The value types of the block: the 32-bit Word (00_scope.md R4, `WORD_BITS`), the byte the codes are
laid out in, and the direction of a host access (30_encoding.md R81, field `W`). -/

namespace Sys2Proof

/-- A 32-bit quantity: a Channel Word, a register value, the DATA operand (00_scope.md R4, R6). -/
abbrev Word := BitVec 32

/-- One byte of a code's layout (30_encoding.md R80, log entry 11). -/
abbrev Byte := BitVec 8

/-- The direction of a host access, `HOSTACC.W`: a write carries its 32-bit DATA operand, a read carries none
(30_encoding.md R81, R89). -/
inductive Access where
  | read
  | write (data : Word)
  deriving DecidableEq, Repr, Inhabited

/-- The two encoded forms of the block, and no other (30_encoding.md R80). -/
inductive Format where
  | hostacc
  | ustate
  deriving DecidableEq, Repr

end Sys2Proof
end

