-- ==== Sys2Proof/Syntax.lean ====
section
/-! DEFINITION. The instructions: one constructor per row of spec/opcode_table.json (30_encoding.md R82, R84), in the
table's order. A `HOSTACC` row is one host register operation, a `USTATE` row one micro-state of the sequencer. -/

namespace Sys2Proof

/-- One row of the opcode table each. `data` is the DATA operand of a write, `off` the field `OFF`, `a` the direction
of an access together with its DATA, `t` the field `T`. -/
inductive Instr where
  /-- `RD CTRL` (43_channel_host_ops.md R161). -/
  | rdCtrl
  /-- `WR CTRL, DATA` (R162). -/
  | wrCtrl (data : Word)
  /-- `RD CLKDIV` (R163). -/
  | rdClkdiv
  /-- `WR CLKDIV, DATA` (R164). -/
  | wrClkdiv (data : Word)
  /-- `RD TXDATA` (R165). -/
  | rdTxdata
  /-- `WR TXDATA, DATA` (R166). -/
  | wrTxdata (data : Word)
  /-- `RD STATUS` (R167). -/
  | rdStatus
  /-- `WR STATUS, DATA` (R168). -/
  | wrStatus (data : Word)
  /-- `RD @off` at a reserved offset 0x10..0x1C (R169). -/
  | rdReserved10 (off : BitVec 6)
  /-- `RD @off` at a reserved offset 0x20..0x3C (R169). -/
  | rdReserved20 (off : BitVec 6)
  /-- `WR @off, DATA` at a reserved offset 0x10..0x1C (R169). -/
  | wrReserved10 (off : BitVec 6) (data : Word)
  /-- `WR @off, DATA` at a reserved offset 0x20..0x3C (R169). -/
  | wrReserved20 (off : BitVec 6) (data : Word)
  /-- A byte access, `SIZE` = 0b00 (R170). -/
  | refusedByte (a : Access) (off : BitVec 6)
  /-- A halfword access, `SIZE` = 0b01 (R170). -/
  | refusedHalfword (a : Access) (off : BitVec 6)
  /-- An access of the reserved size, `SIZE` = 0b11 (R170). -/
  | refusedSize3 (a : Access) (off : BitVec 6)
  /-- A word access with `OFF[0]` = 1 (R170). -/
  | refusedOdd (a : Access) (off : BitVec 6)
  /-- A word access with `OFF[1:0]` = 0b10 (R170). -/
  | refusedOff2 (a : Access) (off : BitVec 6)
  /-- `PULSE_FETCH` (41_pulse_encoder.md R121). -/
  | pulseFetch
  /-- `PULSE_LEAD0` (R122). -/
  | pulseLead0
  /-- `PULSE_LEAD1` (R123). -/
  | pulseLead1
  /-- `PULSE_DATA0` (R124). -/
  | pulseData0
  /-- `PULSE_DATA1` (R125). -/
  | pulseData1
  /-- `PULSE_TRAIL0` (R126). -/
  | pulseTrail0
  /-- The unreachable PULSE codes, `T` = 6, 7 (R127). -/
  | pulseUnreachable (t : BitVec 3)
  /-- `PARC_FETCH` (42_parallel_encoder.md R141). -/
  | parcFetch
  /-- `PARC_XFER` (R142). -/
  | parcXfer
  /-- The unreachable PAR_CONCURRENT codes `T` = 2, 3 (R143). -/
  | parcUnreachable23 (t : BitVec 3)
  /-- The unreachable PAR_CONCURRENT codes `T` = 4..7 (R143). -/
  | parcUnreachable47 (t : BitVec 3)
  /-- `PARS_FETCH` (R144). -/
  | parsFetch
  /-- `PARS_DUPD` (R145). -/
  | parsDupd
  /-- `PARS_CLKH` (R146). -/
  | parsClkh
  /-- `PARS_HOLD` (R147). -/
  | parsHold
  /-- The unreachable PAR_SETTLED codes `T` = 4..7 (R148). -/
  | parsUnreachable (t : BitVec 3)
  /-- The codes of MODE 0b11, which is never held (40_clock_divider.md R103, 10_state.md R23). -/
  | mode3Unreachable (t : BitVec 3)
  deriving DecidableEq, Repr

end Sys2Proof
end

