-- ==== Sys2Proof/WellFormed.lean ====
section
/-! DEFINITION. Which instruction terms the opcode table has: each operand in the range its row's pattern gives it
(30_encoding.md R82, R84; spec/opcode_table.json). -/

namespace Sys2Proof

/-- A reserved offset of the row `OFF 0x10..0x1C`: `OFF[5:4]` = 0b01 and a multiple of 4. -/
def Instr.isReserved10 (off : BitVec 6) : Bool :=
  off.extractLsb' 4 2 == 0b01#2 && off.extractLsb' 0 2 == 0b00#2

/-- A reserved offset of the row `OFF 0x20..0x3C`: `OFF[5]` = 1 and a multiple of 4. -/
def Instr.isReserved20 (off : BitVec 6) : Bool :=
  off.getLsbD 5 && off.extractLsb' 0 2 == 0b00#2

/-- Whether a term is an instruction of the table. -/
def Instr.wf : Instr → Bool
  | .rdCtrl | .wrCtrl _ | .rdClkdiv | .wrClkdiv _ | .rdTxdata | .wrTxdata _ | .rdStatus | .wrStatus _ => true
  | .rdReserved10 off | .wrReserved10 off _ => Instr.isReserved10 off
  | .rdReserved20 off | .wrReserved20 off _ => Instr.isReserved20 off
  | .refusedByte _ _ | .refusedHalfword _ _ | .refusedSize3 _ _ => true
  | .refusedOdd _ off => off.getLsbD 0
  | .refusedOff2 _ off => off.extractLsb' 0 2 == 0b10#2
  | .pulseFetch | .pulseLead0 | .pulseLead1 | .pulseData0 | .pulseData1 | .pulseTrail0 => true
  | .pulseUnreachable t => 6 ≤ t.toNat
  | .parcFetch | .parcXfer => true
  | .parcUnreachable23 t => t.extractLsb' 1 2 == 0b01#2
  | .parcUnreachable47 t => 4 ≤ t.toNat
  | .parsFetch | .parsDupd | .parsClkh | .parsHold => true
  | .parsUnreachable t => 4 ≤ t.toNat
  | .mode3Unreachable _ => true

end Sys2Proof
end

