-- ==== Sys2Proof/Decode.lean ====
section
/-! DEFINITION. Encodings (30_encoding.md R80-R89): the codes, the decoder of each of the two forms, their layout in
bytes, the encoder, and the opcode table of spec/opcode_table.json as rows of a mask and a pattern. -/

namespace Sys2Proof

/-- An encoded form: a `HOSTACC` with the DATA operand a write carries, or a `USTATE` (30_encoding.md R80, R89). -/
inductive Code where
  | hostacc (acc : BitVec 9) (data : Option Word)
  | ustate (u : BitVec 5)
  deriving DecidableEq, Repr

/-- Why a decoder rejects what it is given. -/
inductive DecodeError where
  /-- The bytes end before the form does. -/
  | truncated
  /-- A bit above the 9 of a `HOSTACC` or the 5 of a `USTATE` is set. -/
  | highBits
  /-- A write (`W` = 1) without its DATA operand (R89). -/
  | missingData
  deriving DecidableEq, Repr

/-! ## The fields -/

/-- `HOSTACC.SIZE`, bits 8:7 (R81). -/
def hostaccSize (acc : BitVec 9) : BitVec 2 := acc.extractLsb' 7 2

/-- `HOSTACC.W`, bit 6 (R81). -/
def hostaccW (acc : BitVec 9) : Bool := acc.getLsbD 6

/-- `HOSTACC.OFF`, bits 5:0 (R81). -/
def hostaccOff (acc : BitVec 9) : BitVec 6 := acc.extractLsb' 0 6

/-- A `HOSTACC` from its fields (R81). -/
def hostaccOf (size : BitVec 2) (w : Bool) (off : BitVec 6) : BitVec 9 := size ++ BitVec.ofBool w ++ off

/-- `USTATE.MODE`, bits 4:3 (R83). -/
def ustateMode (u : BitVec 5) : BitVec 2 := u.extractLsb' 3 2

/-- `USTATE.T`, bits 2:0 (R83). -/
def ustateT (u : BitVec 5) : BitVec 3 := u.extractLsb' 0 3

/-- The `USTATE` code {`MODE`, `T`} (R83). -/
def ustateOf (mode : BitVec 2) (t : BitVec 3) : BitVec 5 := mode ++ t

/-! ## The decoders: every one of the 512 and 32 codes is some row (R82, R84) -/

/-- The admitted read at a word-aligned offset (R82). -/
def decodeRead (off : BitVec 6) : Instr :=
  if off = 0x00#6 then .rdCtrl
  else if off = 0x04#6 then .rdClkdiv
  else if off = 0x08#6 then .rdTxdata
  else if off = 0x0C#6 then .rdStatus
  else if off.getLsbD 5 then .rdReserved20 off
  else .rdReserved10 off

/-- The admitted write at a word-aligned offset (R82). -/
def decodeWrite (off : BitVec 6) (data : Word) : Instr :=
  if off = 0x00#6 then .wrCtrl data
  else if off = 0x04#6 then .wrClkdiv data
  else if off = 0x08#6 then .wrTxdata data
  else if off = 0x0C#6 then .wrStatus data
  else if off.getLsbD 5 then .wrReserved20 off data
  else .wrReserved10 off data

/-- The direction of a `HOSTACC`, with the DATA a write carries; a read ignores DATA (R80, R89). -/
def decodeAccess (acc : BitVec 9) (data : Word) : Access :=
  if hostaccW acc then .write data else .read

/-- The host operation of a `HOSTACC` and a DATA operand (R81, R82, R88). -/
def decodeHostacc (acc : BitVec 9) (data : Word) : Instr :=
  let off := hostaccOff acc
  if hostaccSize acc = 0b00#2 then .refusedByte (decodeAccess acc data) off
  else if hostaccSize acc = 0b01#2 then .refusedHalfword (decodeAccess acc data) off
  else if hostaccSize acc = 0b11#2 then .refusedSize3 (decodeAccess acc data) off
  else if off.getLsbD 0 then .refusedOdd (decodeAccess acc data) off
  else if off.getLsbD 1 then .refusedOff2 (decodeAccess acc data) off
  else if hostaccW acc then decodeWrite off data
  else decodeRead off

/-- The micro-state of MODE 0b00 (R84). -/
def decodePulse (t : BitVec 3) : Instr :=
  if t = 0#3 then .pulseFetch
  else if t = 1#3 then .pulseLead0
  else if t = 2#3 then .pulseLead1
  else if t = 3#3 then .pulseData0
  else if t = 4#3 then .pulseData1
  else if t = 5#3 then .pulseTrail0
  else .pulseUnreachable t

/-- The micro-state of MODE 0b01 (R84). -/
def decodeParc (t : BitVec 3) : Instr :=
  if t = 0#3 then .parcFetch
  else if t = 1#3 then .parcXfer
  else if t.getLsbD 2 then .parcUnreachable47 t
  else .parcUnreachable23 t

/-- The micro-state of MODE 0b10 (R84). -/
def decodePars (t : BitVec 3) : Instr :=
  if t = 0#3 then .parsFetch
  else if t = 1#3 then .parsDupd
  else if t = 2#3 then .parsClkh
  else if t = 3#3 then .parsHold
  else .parsUnreachable t

/-- The micro-state of a `USTATE` code (R83, R84; the dispatch of 40_clock_divider.md R103). -/
def decodeUstate (u : BitVec 5) : Instr :=
  if ustateMode u = 0b00#2 then decodePulse (ustateT u)
  else if ustateMode u = 0b01#2 then decodeParc (ustateT u)
  else if ustateMode u = 0b10#2 then decodePars (ustateT u)
  else .mode3Unreachable (ustateT u)

/-- The instruction of a code; a write without its DATA is rejected (R89). -/
def decodeCode : Code → Except DecodeError Instr
  | .hostacc acc (some data) => .ok (decodeHostacc acc data)
  | .hostacc acc none => if hostaccW acc then .error .missingData else .ok (decodeHostacc acc 0#32)
  | .ustate u => .ok (decodeUstate u)

/-! ## Layout in bytes (DESIGN CHOICE, log entry 11): low byte first -/

/-- The 32-bit DATA of four bytes, low byte first. -/
def dataOfBytes (b0 b1 b2 b3 : Byte) : Word := b3 ++ b2 ++ b1 ++ b0

/-- The four bytes of a DATA operand, low byte first. -/
def bytesOfData (d : Word) : List Byte :=
  [d.extractLsb' 0 8, d.extractLsb' 8 8, d.extractLsb' 16 8, d.extractLsb' 24 8]

/-- Decodes a form laid out in bytes and gives back the bytes after it. -/
def decodeBytes : Format → List Byte → Except DecodeError (Instr × List Byte)
  | .ustate, u :: rest =>
    if u.extractLsb' 5 3 = 0#3 then .ok (decodeUstate (u.extractLsb' 0 5), rest) else .error .highBits
  | .hostacc, lo :: hi :: rest =>
    if hi.extractLsb' 1 7 = 0#7 then
      let acc : BitVec 9 := hi.extractLsb' 0 1 ++ lo
      if hostaccW acc then
        match rest with
        | b0 :: b1 :: b2 :: b3 :: rest' => .ok (decodeHostacc acc (dataOfBytes b0 b1 b2 b3), rest')
        | _ => .error .missingData
      else .ok (decodeHostacc acc 0#32, rest)
    else .error .highBits
  | _, _ => .error .truncated

/-! ## The encoder (R81-R84) -/

/-- The code of an access of a given size. -/
def encodeAccess (size : BitVec 2) (a : Access) (off : BitVec 6) : Code :=
  match a with
  | .read => .hostacc (hostaccOf size false off) none
  | .write data => .hostacc (hostaccOf size true off) (some data)

/-- The code of an instruction (R82, R84). -/
def encodeCode : Instr → Code
  | .rdCtrl => encodeAccess 0b10#2 .read 0x00#6
  | .wrCtrl data => encodeAccess 0b10#2 (.write data) 0x00#6
  | .rdClkdiv => encodeAccess 0b10#2 .read 0x04#6
  | .wrClkdiv data => encodeAccess 0b10#2 (.write data) 0x04#6
  | .rdTxdata => encodeAccess 0b10#2 .read 0x08#6
  | .wrTxdata data => encodeAccess 0b10#2 (.write data) 0x08#6
  | .rdStatus => encodeAccess 0b10#2 .read 0x0C#6
  | .wrStatus data => encodeAccess 0b10#2 (.write data) 0x0C#6
  | .rdReserved10 off => encodeAccess 0b10#2 .read off
  | .rdReserved20 off => encodeAccess 0b10#2 .read off
  | .wrReserved10 off data => encodeAccess 0b10#2 (.write data) off
  | .wrReserved20 off data => encodeAccess 0b10#2 (.write data) off
  | .refusedByte a off => encodeAccess 0b00#2 a off
  | .refusedHalfword a off => encodeAccess 0b01#2 a off
  | .refusedSize3 a off => encodeAccess 0b11#2 a off
  | .refusedOdd a off => encodeAccess 0b10#2 a off
  | .refusedOff2 a off => encodeAccess 0b10#2 a off
  | .pulseFetch => .ustate (ustateOf 0b00#2 0#3)
  | .pulseLead0 => .ustate (ustateOf 0b00#2 1#3)
  | .pulseLead1 => .ustate (ustateOf 0b00#2 2#3)
  | .pulseData0 => .ustate (ustateOf 0b00#2 3#3)
  | .pulseData1 => .ustate (ustateOf 0b00#2 4#3)
  | .pulseTrail0 => .ustate (ustateOf 0b00#2 5#3)
  | .pulseUnreachable t => .ustate (ustateOf 0b00#2 t)
  | .parcFetch => .ustate (ustateOf 0b01#2 0#3)
  | .parcXfer => .ustate (ustateOf 0b01#2 1#3)
  | .parcUnreachable23 t => .ustate (ustateOf 0b01#2 t)
  | .parcUnreachable47 t => .ustate (ustateOf 0b01#2 t)
  | .parsFetch => .ustate (ustateOf 0b10#2 0#3)
  | .parsDupd => .ustate (ustateOf 0b10#2 1#3)
  | .parsClkh => .ustate (ustateOf 0b10#2 2#3)
  | .parsHold => .ustate (ustateOf 0b10#2 3#3)
  | .parsUnreachable t => .ustate (ustateOf 0b10#2 t)
  | .mode3Unreachable t => .ustate (ustateOf 0b11#2 t)

/-- The form of a code. -/
def Code.format : Code → Format
  | .hostacc _ _ => .hostacc
  | .ustate _ => .ustate

/-- A code laid out in bytes (log entry 11). -/
def bytesOfCode : Code → List Byte
  | .hostacc acc data =>
    acc.extractLsb' 0 8 :: (0#7 ++ acc.extractLsb' 8 1) ::
      (match data with
       | some d => bytesOfData d
       | none => [])
  | .ustate u => [0#3 ++ u]

/-- The bytes of an instruction. -/
def encode (i : Instr) : List Byte := bytesOfCode (encodeCode i)

/-! ## The opcode table (spec/opcode_table.json) -/

/-- One row of the table: its mnemonic and the mask and pattern of its codes. -/
structure OpcodeRow where
  mnemonic : String
  format : Format
  mask : Nat
  pattern : Nat
  deriving DecidableEq, Repr

/-- Whether a code, given as a number, is one of the row's. -/
def OpcodeRow.hits (r : OpcodeRow) (f : Format) (code : Nat) : Bool :=
  r.format == f && code &&& r.mask == r.pattern

/-- The row an instruction stands for. -/
def Instr.row : Instr → OpcodeRow
  | .rdCtrl => ⟨"RD_CTRL", .hostacc, 0x1FF, 0x100⟩
  | .wrCtrl _ => ⟨"WR_CTRL", .hostacc, 0x1FF, 0x140⟩
  | .rdClkdiv => ⟨"RD_CLKDIV", .hostacc, 0x1FF, 0x104⟩
  | .wrClkdiv _ => ⟨"WR_CLKDIV", .hostacc, 0x1FF, 0x144⟩
  | .rdTxdata => ⟨"RD_TXDATA", .hostacc, 0x1FF, 0x108⟩
  | .wrTxdata _ => ⟨"WR_TXDATA", .hostacc, 0x1FF, 0x148⟩
  | .rdStatus => ⟨"RD_STATUS", .hostacc, 0x1FF, 0x10C⟩
  | .wrStatus _ => ⟨"WR_STATUS", .hostacc, 0x1FF, 0x14C⟩
  | .rdReserved10 _ => ⟨"RD__off__reserved__OFF_0x10..0x1C", .hostacc, 0x1F3, 0x110⟩
  | .rdReserved20 _ => ⟨"RD__off__reserved__OFF_0x20..0x3C", .hostacc, 0x1E3, 0x120⟩
  | .wrReserved10 _ _ => ⟨"WR__off__reserved__OFF_0x10..0x1C", .hostacc, 0x1F3, 0x150⟩
  | .wrReserved20 _ _ => ⟨"WR__off__reserved__OFF_0x20..0x3C", .hostacc, 0x1E3, 0x160⟩
  | .refusedByte _ _ => ⟨"REFUSED__SIZE___byte", .hostacc, 0x180, 0x000⟩
  | .refusedHalfword _ _ => ⟨"REFUSED__SIZE___halfword", .hostacc, 0x180, 0x080⟩
  | .refusedSize3 _ _ => ⟨"REFUSED__SIZE___reserved", .hostacc, 0x180, 0x180⟩
  | .refusedOdd _ _ => ⟨"REFUSED__word__OFF_0____1", .hostacc, 0x181, 0x101⟩
  | .refusedOff2 _ _ => ⟨"REFUSED__word__OFF_1_0____10", .hostacc, 0x183, 0x102⟩
  | .pulseFetch => ⟨"PULSE_FETCH", .ustate, 0x1F, 0x00⟩
  | .pulseLead0 => ⟨"PULSE_LEAD0", .ustate, 0x1F, 0x01⟩
  | .pulseLead1 => ⟨"PULSE_LEAD1", .ustate, 0x1F, 0x02⟩
  | .pulseData0 => ⟨"PULSE_DATA0", .ustate, 0x1F, 0x03⟩
  | .pulseData1 => ⟨"PULSE_DATA1", .ustate, 0x1F, 0x04⟩
  | .pulseTrail0 => ⟨"PULSE_TRAIL0", .ustate, 0x1F, 0x05⟩
  | .pulseUnreachable _ => ⟨"PULSE_unreachable__T___6__7", .ustate, 0x1E, 0x06⟩
  | .parcFetch => ⟨"PARC_FETCH", .ustate, 0x1F, 0x08⟩
  | .parcXfer => ⟨"PARC_XFER", .ustate, 0x1F, 0x09⟩
  | .parcUnreachable23 _ => ⟨"PARC_unreachable__T___2__3", .ustate, 0x1E, 0x0A⟩
  | .parcUnreachable47 _ => ⟨"PARC_unreachable__T___4..7", .ustate, 0x1C, 0x0C⟩
  | .parsFetch => ⟨"PARS_FETCH", .ustate, 0x1F, 0x10⟩
  | .parsDupd => ⟨"PARS_DUPD", .ustate, 0x1F, 0x11⟩
  | .parsClkh => ⟨"PARS_CLKH", .ustate, 0x1F, 0x12⟩
  | .parsHold => ⟨"PARS_HOLD", .ustate, 0x1F, 0x13⟩
  | .parsUnreachable _ => ⟨"PARS_unreachable__T___4..7", .ustate, 0x1C, 0x14⟩
  | .mode3Unreachable _ => ⟨"MODE_0b11_unreachable", .ustate, 0x18, 0x18⟩

/-- The 34 rows, in the table's order. -/
def opcodeTable : List OpcodeRow :=
  [Instr.row .rdCtrl, Instr.row (.wrCtrl 0), Instr.row .rdClkdiv, Instr.row (.wrClkdiv 0),
   Instr.row .rdTxdata, Instr.row (.wrTxdata 0), Instr.row .rdStatus, Instr.row (.wrStatus 0)] ++
  [Instr.row (.rdReserved10 0), Instr.row (.rdReserved20 0), Instr.row (.wrReserved10 0 0),
   Instr.row (.wrReserved20 0 0), Instr.row (.refusedByte .read 0), Instr.row (.refusedHalfword .read 0),
   Instr.row (.refusedSize3 .read 0), Instr.row (.refusedOdd .read 0), Instr.row (.refusedOff2 .read 0)] ++
  [Instr.row .pulseFetch, Instr.row .pulseLead0, Instr.row .pulseLead1, Instr.row .pulseData0,
   Instr.row .pulseData1, Instr.row .pulseTrail0, Instr.row (.pulseUnreachable 0)] ++
  [Instr.row .parcFetch, Instr.row .parcXfer, Instr.row (.parcUnreachable23 0), Instr.row (.parcUnreachable47 0),
   Instr.row .parsFetch, Instr.row .parsDupd, Instr.row .parsClkh, Instr.row .parsHold,
   Instr.row (.parsUnreachable 0), Instr.row (.mode3Unreachable 0)]

/-- The number of a code. -/
def Code.number : Code → Nat
  | .hostacc acc _ => acc.toNat
  | .ustate u => u.toNat

/-! ## The host's word -/

/-- The low `n` bytes of a number, low byte first. -/
def natBytes : Nat → Nat → List Byte
  | 0, _ => []
  | n + 1, w => BitVec.ofNat 8 w :: natBytes n (w / 256)

/-- The form a table row's width names: a `USTATE` fits one byte, a `HOSTACC` does not (R80, log entry 11). -/
def formatOfWidth (nbits : Nat) : Format := if nbits ≤ 8 then .ustate else .hostacc

/-- The longest form in bytes: a write's `HOSTACC` and DATA. -/
def maxBytes : Nat := 6

/-- The instruction the decoder reads from an instruction of `nbits` bits with value `w`, every bit above being 0. -/
def decodeTableWord (nbits w : Nat) : Option Instr :=
  if w < 2 ^ (8 * maxBytes) then
    match decodeBytes (formatOfWidth nbits) (natBytes maxBytes w) with
    | .ok (i, _) => some i
    | .error _ => none
  else none

end Sys2Proof
end

