-- ==== Sys2Proof/Config.lean ====
section
/-! DEFINITION. What an implementation or the platform fixes: the parameters of 00_scope.md R4, the inputs the outside
world gives the block (00_scope.md R8, 70_reset_and_hazards.md R210), and the free values. -/

namespace Sys2Proof

/-- What the outside world can do to one block at one step: a HOST register operation, a rising edge of the system
clock (00_scope.md R8), or the platform's reset (70_reset_and_hazards.md R210). -/
inductive Input where
  /-- One host register operation: the 9-bit `HOSTACC` and the 32-bit DATA, which a read ignores (30_encoding.md R80). -/
  | access (code : BitVec 9) (data : Word)
  /-- One rising edge of the system clock. -/
  | sysclk
  /-- The power-on or system reset of the platform. -/
  | reset
  deriving DecidableEq, Repr, Inhabited

/-- DESIGN CHOICE (log entry 2): which input comes next when State lists none. FREE VALUE: no body, so nothing can
be proved of it, and a claim holds for every interleaving of the agents (00_scope.md R8). Safe. -/
opaque Config.nextInput : Nat → Input

/-- `F_SYS_HZ`, OPEN and greater than 0 (00_scope.md R4): no value in any source. FREE VALUE in whole hertz, log
entry 12. Safe. -/
opaque Config.fSysHz : ℕ+

/-- `REG_BASE`, OPEN (20_memory.md R60): where the window sits in the host's address space. FREE VALUE, log entry 12.
The block never sees it. Safe. -/
opaque Config.regBase : Nat

/-- The address at which the platform shows the register at a window offset (20_memory.md R60). -/
def Config.regAddress (off : BitVec 6) : Nat := Config.regBase + off.toNat

/-- `CHANNEL_DEPTH` by default (00_scope.md R4). -/
def Config.channelDepthDefault : Nat := 8

/-- The largest legal `CHANNEL_DEPTH` (00_scope.md R4). -/
def Config.channelDepthMax : Nat := 255

/-- `PAYLOAD_BITS`: the payload bits of a pulse Word (00_scope.md R4). -/
def Config.payloadBits : Nat := 24

/-- `BIT_TICKS`: the ticks of one PULSE bit period (00_scope.md R4). -/
def Config.bitTicks : Nat := 6

/-- `LEAD_TICKS` (00_scope.md R4). -/
def Config.leadTicks : Nat := 2

/-- `DATA_TICKS` (00_scope.md R4). -/
def Config.dataTicks : Nat := 2

/-- `TRAIL_TICKS`, the fetch tick counted in (00_scope.md R4, 70_reset_and_hazards.md R224). -/
def Config.trailTicks : Nat := 2

/-- `PARC_TICKS`: the ticks of one PAR_CONCURRENT transfer (00_scope.md R4). -/
def Config.parcTicks : Nat := 2

/-- `PARS_TICKS`: the ticks of one PAR_SETTLED transfer (00_scope.md R4, 90_conflicts.md C2). -/
def Config.parsTicks : Nat := 4

/-- The ticks of one PULSE Word: 24 bit periods (70_reset_and_hazards.md R224). -/
def Config.wordTicks : Nat := Config.payloadBits * Config.bitTicks

/-- `LATCH_US`: the latch gap in microseconds (00_scope.md R4). -/
def Config.latchUs : Nat := 50

/-- `STRIP_LENGTH` by default, a host parameter of at least 1 (00_scope.md R4). -/
def Config.stripLengthDefault : ℕ+ := 90

/-- The nominal tick rate, 4.8 MHz (00_scope.md R4). -/
def Config.nominalTickHz : ℕ+ := 4800000

/-- `LATCH_TICKS` = ceil(`LATCH_US` × 10^-6 × `F_SYS_HZ` / `DIV`), for a clock frequency and a divisor that are not 0
(00_scope.md R4). -/
def Config.latchTicks (fSysHz div : ℕ+) : Nat :=
  (Config.latchUs * fSysHz.val + (1000000 * div.val - 1)) / (1000000 * div.val)

/-- The ticks of one PULSE Frame with no stall (70_reset_and_hazards.md R225). -/
def Config.frameTicks (stripLength : ℕ+) : Nat := stripLength.val * Config.wordTicks

/-- The shortest Frame-to-Frame period in ticks (70_reset_and_hazards.md R225). -/
def Config.framePeriodTicks (stripLength fSysHz div : ℕ+) : Nat :=
  Config.frameTicks stripLength + Config.latchTicks fSysHz div

/-- The tick rate in hertz, `F_SYS_HZ / DIV`, as an exact fraction (40_clock_divider.md R100). -/
def Config.tickRate (fSysHz div : ℕ+) : Rat := fSysHz.val / div.val

/-- The PULSE bit rate in bits per second, `F_SYS_HZ / (6 × DIV)` (40_clock_divider.md R100). -/
def Config.pulseBitRate (fSysHz div : ℕ+) : Rat := Config.tickRate fSysHz div / Config.bitTicks

/-- The PAR_CONCURRENT transfer rate in Words per second, `F_SYS_HZ / (2 × DIV)` (40_clock_divider.md R100). -/
def Config.parcRate (fSysHz div : ℕ+) : Rat := Config.tickRate fSysHz div / Config.parcTicks

/-- The PAR_SETTLED transfer rate in Words per second, `F_SYS_HZ / (4 × DIV)` (40_clock_divider.md R100). -/
def Config.parsRate (fSysHz div : ℕ+) : Rat := Config.tickRate fSysHz div / Config.parsTicks

end Sys2Proof
end

