-- ==== Sys2Proof/Machine/State.lean ====
section
/-! DEFINITION. The state of one block (10_state.md R20) as plain data, the reasons a step can stop (60_exceptions.md
R195), and the state after reset (10_state.md R40). -/

namespace Sys2Proof.Machine

/-- Why the machine stops with a fault (60_exceptions.md R195). -/
inductive Fault where
  /-- `fault(unreachable_ustate)`: raised by a tick at a `USTATE` code no rule reaches (40_clock_divider.md R103,
  41_pulse_encoder.md R127, 42_parallel_encoder.md R143, R148). Safe: no run of the rules reaches it. -/
  | unreachableUstate
  /-- `fault(invariant)`: raised by a step from a state that breaks 10_state.md R41, and by a Channel primitive called
  against its guarantee (20_memory.md R62). Safe: no run of the rules reaches it. -/
  | invariant
  deriving DecidableEq, Repr

/-- Why the model gives no meaning (60_exceptions.md R195). -/
inductive Refusal where
  /-- An instruction not modelled yet; raised by a refused arm of `exec` only. Safe. -/
  | notModelled (mnemonic : String)
  /-- `refuse(unsupported_access)`: raised by every step of a run whose state is marked `REFUSED` by a refused access
  (43_channel_host_ops.md R170). Safe: nothing can be proved of such a run. -/
  | unsupportedAccess
  deriving DecidableEq, Repr

/-- The state of one block instance (10_state.md R20), then the model's own fields. -/
structure State where
  /-- `EN`: the sequencer runs (R22). -/
  en : Bool
  /-- `MODE`: the protocol (R23). -/
  mode : BitVec 2
  /-- `DIV`: the clock divider's divisor (R24, R29). -/
  div : BitVec 16
  /-- `DIVCNT`: SYSCLK steps since the last tick (R25). -/
  divcnt : BitVec 16
  /-- `T`: the bit timer (R26). -/
  t : BitVec 3
  /-- `OSR`: the output shift register (R27). -/
  osr : Word
  /-- `BITS_LEFT`: payload bits of the current Word not yet sent (R28). -/
  bitsLeft : BitVec 5
  /-- `CUR`: the payload bit being sent (R28). -/
  cur : Bool
  /-- `CFGERR`: the sticky configuration-error flag (R31). -/
  cfgerr : Bool
  /-- `Q`: the Channel, head first (R35). -/
  q : List Word
  /-- `PULSE_OUT` (R33). -/
  pulseOut : Bool
  /-- `PAR_D`: bit i is data line i (R33). -/
  parD : BitVec 8
  /-- `PAR_CLK` (R33). -/
  parClk : Bool
  /-- `REFUSED`: the model-only mark of a run that took a refused access (60_exceptions.md R195). -/
  refused : Bool
  /-- The parameter `CHANNEL_DEPTH` (00_scope.md R4) of this instance. Model's own field, log entry 5: no step writes it. -/
  depth : Nat
  /-- The value of the last host read that completed (30_encoding.md R80). Model's own field, log entry 4. -/
  result : Option Word
  /-- The inputs to come, in order: which agent moves next, and with what (00_scope.md R8). Model's own field, log entry 1. -/
  inputs : List Input
  /-- How many inputs were taken from the free value `Config.nextInput`. Model's own field, log entry 2. -/
  inputCount : Nat
  deriving DecidableEq, Repr

/-- The state after reset, at the start of a run (10_state.md R40; the model's own fields: log entries 1, 2, 4, 5). -/
def State.reset : State where
  en := false
  mode := 0b00#2
  div := 1#16
  divcnt := 0#16
  t := 0#3
  osr := 0x00000000#32
  bitsLeft := 0#5
  cur := false
  cfgerr := false
  q := []
  pulseOut := false
  parD := 0x00#8
  parClk := false
  refused := false
  depth := Config.channelDepthDefault
  result := none
  inputs := []
  inputCount := 0

end Sys2Proof.Machine
end

