-- ==== Sys2Proof/Machine/Ops.lean ====
section
/-! DEFINITION. The named operations over the state: one write per field, the Channel primitives (20_memory.md R62),
a completed read (30_encoding.md R80), the MODE change (43_channel_host_ops.md R162) and the reset event
(70_reset_and_hazards.md R210). The block raises no exception and returns from none (60_exceptions.md R190, R194), so
there is no operation that takes one. -/

namespace Sys2Proof.Machine

/-- What an instruction or a step answers. -/
abbrev StepResult := Host.Outcome State Fault Refusal

/-! ## One write per field -/

/-- Writes `EN`. -/
def State.setEn (s : State) (v : Bool) : State := { s with en := v }

/-- Writes `MODE`. -/
def State.setMode (s : State) (v : BitVec 2) : State := { s with mode := v }

/-- Writes `DIV`. -/
def State.setDiv (s : State) (v : BitVec 16) : State := { s with div := v }

/-- Writes `DIVCNT`. -/
def State.setDivcnt (s : State) (v : BitVec 16) : State := { s with divcnt := v }

/-- Writes `T`. -/
def State.setT (s : State) (v : BitVec 3) : State := { s with t := v }

/-- Writes `OSR`. -/
def State.setOsr (s : State) (v : Word) : State := { s with osr := v }

/-- Writes `BITS_LEFT`. -/
def State.setBitsLeft (s : State) (v : BitVec 5) : State := { s with bitsLeft := v }

/-- Writes `CUR`. -/
def State.setCur (s : State) (v : Bool) : State := { s with cur := v }

/-- Writes `CFGERR`. -/
def State.setCfgerr (s : State) (v : Bool) : State := { s with cfgerr := v }

/-- Writes `Q`. -/
def State.setQ (s : State) (v : List Word) : State := { s with q := v }

/-- Writes `PULSE_OUT`. -/
def State.setPulseOut (s : State) (v : Bool) : State := { s with pulseOut := v }

/-- Writes `PAR_D`. -/
def State.setParD (s : State) (v : BitVec 8) : State := { s with parD := v }

/-- Writes `PAR_CLK`. -/
def State.setParClk (s : State) (v : Bool) : State := { s with parClk := v }

/-- Writes `REFUSED`. -/
def State.setRefused (s : State) (v : Bool) : State := { s with refused := v }

/-- Writes the read result. -/
def State.setResult (s : State) (v : Option Word) : State := { s with result := v }

/-- Writes the inputs to come. -/
def State.setInputs (s : State) (v : List Input) : State := { s with inputs := v }

/-- Writes the count of free inputs taken. -/
def State.setInputCount (s : State) (v : Nat) : State := { s with inputCount := v }

/-! ## The Channel (20_memory.md R62) -/

/-- `Level()`: the number of Words in the Channel (10_state.md R37). -/
def level (s : State) : Nat := s.q.length

/-- `Enqueue(w)` at the tail. The caller guarantees `Level() < CHANNEL_DEPTH`; a call that breaks the guarantee is
`fault(invariant)` (60_exceptions.md R195). -/
def enqueue (w : Word) (s : State) : StepResult :=
  if level s < s.depth then .next (s.setQ (s.q ++ [w])) else .fault .invariant

/-- `Dequeue()` at the head, and what the caller does with the Word. The caller guarantees `Level() > 0`; a call that
breaks the guarantee is `fault(invariant)` (60_exceptions.md R195). -/
def withDequeued (s : State) (k : Word → State → StepResult) : StepResult :=
  match s.q with
  | [] => .fault .invariant
  | w :: rest => k w (s.setQ rest)

/-! ## Shared operations -/

/-- An admitted read completes: it returns a 32-bit value and changes no state of the block (43_channel_host_ops.md
R160). -/
def returnRead (v : Word) (s : State) : StepResult := .next (s.setResult (some v))

/-- `T`, `OSR`, `BITS_LEFT`, `CUR` and every output port to 0 (43_channel_host_ops.md R162). -/
def clearSequencer (s : State) : State :=
  ((((((s.setT 0#3).setOsr 0#32).setBitsLeft 0#5).setCur false).setPulseOut false).setParD 0#8).setParClk false

/-- A legal MODE change: the new MODE, and the sequencer and ports cleared; the Channel is kept
(43_channel_host_ops.md R162, 70_reset_and_hazards.md R221). -/
def changeMode (m : BitVec 2) (s : State) : State := clearSequencer (s.setMode m)

/-- The reset event: every element of 10_state.md R20 at its value of R40, but for the mark `REFUSED`, which reset does
not change (70_reset_and_hazards.md R210, 90_conflicts.md C7). The model's own fields are not the block's (log entry 9). -/
def applyReset (s : State) : State :=
  { State.reset with
    refused := s.refused
    depth := s.depth
    result := s.result
    inputs := s.inputs
    inputCount := s.inputCount }

end Sys2Proof.Machine
end

