-- ==== Sys2Proof/Machine/Flags.lean ====
section
/-! DEFINITION. The flags of STATUS (10_state.md R30, R31, R37) and the values the readable registers show
(10_state.md R21, R24, R30). `LEVEL`, `FULL` and `EMPTY` are computed from the Channel at every read; `CFGERR` is the
only stored flag (10_state.md R38). -/

namespace Sys2Proof.Machine

/-- `FULL`: `Level() = CHANNEL_DEPTH` (10_state.md R37). -/
def flagFull (s : State) : Bool := level s == s.depth

/-- `EMPTY`: `Level() = 0` (10_state.md R37). -/
def flagEmpty (s : State) : Bool := level s == 0

/-- `LEVEL`: `Level()[7:0]` (10_state.md R30). -/
def flagLevel (s : State) : BitVec 8 := BitVec.ofNat 8 (level s)

/-- A configuration error: `CFGERR` is set and nothing else changes (10_state.md R31, 60_exceptions.md R191). -/
def raiseCfgerr (s : State) : State := s.setCfgerr true

/-- The read value of CTRL: {29'b0, MODE, EN} (10_state.md R21). -/
def ctrlWord (s : State) : Word := 0#29 ++ s.mode ++ BitVec.ofBool s.en

/-- The read value of CLKDIV: {16'b0, DIV} (10_state.md R24). -/
def clkdivWord (s : State) : Word := 0#16 ++ s.div

/-- The read value of STATUS: bit 16 `CFGERR`, bit 9 `EMPTY`, bit 8 `FULL`, bits 7:0 `LEVEL` (10_state.md R30). -/
def statusWord (s : State) : Word :=
  0#15 ++ BitVec.ofBool s.cfgerr ++ 0#6 ++ BitVec.ofBool (flagEmpty s) ++ BitVec.ofBool (flagFull s) ++ flagLevel s

end Sys2Proof.Machine
end

