-- ==== Sys2Proof/Machine/HostRead.lean ====
section
/-! DEFINITION. The host reads of the four registers (43_channel_host_ops.md R161, R163, R165, R167). -/

namespace Sys2Proof.Machine

/-- `RD CTRL` (43_channel_host_ops.md R161). -/
def execRdCtrl (s : State) : StepResult := returnRead (ctrlWord s) s

/-- `RD CLKDIV` (43_channel_host_ops.md R163). -/
def execRdClkdiv (s : State) : StepResult := returnRead (clkdivWord s) s

/-- `RD TXDATA`: 0, and the Channel is not touched (43_channel_host_ops.md R165, 10_state.md R32). -/
def execRdTxdata (s : State) : StepResult := returnRead 0x00000000#32 s

/-- `RD STATUS` (43_channel_host_ops.md R167). -/
def execRdStatus (s : State) : StepResult := returnRead (statusWord s) s

end Sys2Proof.Machine
end

