-- ==== Sys2Proof/Machine/HostRefused.lean ====
section
/-! DEFINITION. The accesses that are not admitted: a wrong size or a misaligned offset (43_channel_host_ops.md R170,
20_memory.md R66). The access marks the state `REFUSED`, and from then on every step is refused (60_exceptions.md R195,
log entries 6 and 7). -/

namespace Sys2Proof.Machine

/-- `refuse(unsupported_access)`: the state is marked (43_channel_host_ops.md R170). -/
def refuseAccess (s : State) : StepResult := .next (s.setRefused true)

/-- A byte access (43_channel_host_ops.md R170). -/
def execRefusedByte (_a : Access) (_off : BitVec 6) (s : State) : StepResult := refuseAccess s

/-- A halfword access (43_channel_host_ops.md R170). -/
def execRefusedHalfword (_a : Access) (_off : BitVec 6) (s : State) : StepResult := refuseAccess s

/-- An access of the reserved size (43_channel_host_ops.md R170). -/
def execRefusedSize3 (_a : Access) (_off : BitVec 6) (s : State) : StepResult := refuseAccess s

/-- A word access with `OFF[0]` = 1 (43_channel_host_ops.md R170). -/
def execRefusedOdd (_a : Access) (_off : BitVec 6) (s : State) : StepResult := refuseAccess s

/-- A word access with `OFF[1:0]` = 0b10 (43_channel_host_ops.md R170). -/
def execRefusedOff2 (_a : Access) (_off : BitVec 6) (s : State) : StepResult := refuseAccess s

end Sys2Proof.Machine
end

