-- ==== Sys2Proof/Machine/HostReserved.lean ====
section
/-! DEFINITION. The reserved offsets 0x10..0x3C: a read returns 0, a write is ignored, nothing else happens
(43_channel_host_ops.md R169). -/

namespace Sys2Proof.Machine

/-- A read of a reserved offset (43_channel_host_ops.md R169). -/
def readReserved (s : State) : StepResult := returnRead 0x00000000#32 s

/-- A write of a reserved offset: no change (43_channel_host_ops.md R169). -/
def writeReserved (s : State) : StepResult := .next s

/-- `RD @off`, 0x10..0x1C (43_channel_host_ops.md R169). -/
def execRdReserved10 (_off : BitVec 6) (s : State) : StepResult := readReserved s

/-- `RD @off`, 0x20..0x3C (43_channel_host_ops.md R169). -/
def execRdReserved20 (_off : BitVec 6) (s : State) : StepResult := readReserved s

/-- `WR @off, DATA`, 0x10..0x1C (43_channel_host_ops.md R169). -/
def execWrReserved10 (_off : BitVec 6) (_data : Word) (s : State) : StepResult := writeReserved s

/-- `WR @off, DATA`, 0x20..0x3C (43_channel_host_ops.md R169). -/
def execWrReserved20 (_off : BitVec 6) (_data : Word) (s : State) : StepResult := writeReserved s

end Sys2Proof.Machine
end

