-- ==== Sys2Proof/Machine/Operands.lean ====
section
/-! DEFINITION. The operand forms: the fields a host write's DATA carries (30_encoding.md R87), and the data-word
formats (30_encoding.md R85, R86). -/

namespace Sys2Proof.Machine

/-! ## Fields of DATA (30_encoding.md R87); every other bit is ignored -/

/-- New `EN`: `DATA[0]` of a CTRL write. -/
def ctrlEn (data : Word) : Bool := data.getLsbD 0

/-- New `MODE`: `DATA[2:1]` of a CTRL write. -/
def ctrlMode (data : Word) : BitVec 2 := data.extractLsb' 1 2

/-- New `DIV`: `DATA[15:0]` of a CLKDIV write. -/
def clkdivDiv (data : Word) : BitVec 16 := data.extractLsb' 0 16

/-- The CFGERR-clear bit: `DATA[16]` of a STATUS write. -/
def statusClears (data : Word) : Bool := data.getLsbD 16

/-! ## The pulse Word (30_encoding.md R85) -/

/-- `G`, green: bits 31:24. -/
def wordGreen (w : Word) : BitVec 8 := w.extractLsb' 24 8

/-- `R`, red: bits 23:16. -/
def wordRed (w : Word) : BitVec 8 := w.extractLsb' 16 8

/-- `B`, blue: bits 15:8. -/
def wordBlue (w : Word) : BitVec 8 := w.extractLsb' 8 8

/-- `PAD`: bits 7:0, never sent. -/
def wordPad (w : Word) : BitVec 8 := w.extractLsb' 0 8

/-- `(G << 24) | (R << 16) | (B << 8)` (30_encoding.md R87, R90). -/
def packWord (g r b : BitVec 8) : Word :=
  (g.zeroExtend 32 <<< 24) ||| (r.zeroExtend 32 <<< 16) ||| (b.zeroExtend 32 <<< 8)

/-- The payload bit sent first: bit 31 (30_encoding.md R85, 20_memory.md R65). -/
def nextPayloadBit (osr : Word) : Bool := osr.getLsbD 31

/-! ## The parallel Word (30_encoding.md R86) -/

/-- Bits 7:0 of a Word; bit i drives data line i. -/
def parallelData (w : Word) : BitVec 8 := w.extractLsb' 0 8

end Sys2Proof.Machine
end

