-- ==== Sys2Proof/Machine/HostWrite.lean ====
section
/-! DEFINITION. The host writes of the four registers (43_channel_host_ops.md R162, R164, R166, R168). -/

namespace Sys2Proof.Machine

/-- The MODE a CTRL write asks for, once the reserved code 0b11 is replaced by the MODE held (R162). -/
def requestedMode (data : Word) (s : State) : BitVec 2 :=
  if ctrlMode data = 0b11#2 then s.mode else ctrlMode data

/-- The configuration error of a CTRL write: the reserved MODE, or a MODE change while `EN` = 1 (R162). -/
def ctrlError (data : Word) (s : State) : Bool :=
  ctrlMode data == 0b11#2 || (s.en && requestedMode data s != s.mode)

/-- `WR CTRL, DATA`: enable, disable, select the protocol (43_channel_host_ops.md R162). `EN` and `MODE` are read
before the write. A write that clears `EN` freezes the line: 70_reset_and_hazards.md R219 lists the positions at which
it stays high, and there its T is read as the T of the tick that ran last (DEDUCED, log entry 18). A repeated write is
log entry 17. -/
def execWrCtrl (data : Word) (s : State) : StepResult :=
  let newMode := if s.en then s.mode else requestedMode data s
  let s1 := if newMode ≠ s.mode then changeMode newMode s else s
  let s2 := if !s.en && ctrlEn data then s1.setDivcnt 0#16 else s1
  let s3 := s2.setEn (ctrlEn data)
  .next (if ctrlError data s then raiseCfgerr s3 else s3)

/-- `WR CLKDIV, DATA`: set the divisor, only while `EN` = 0 and only to a value other than 0
(43_channel_host_ops.md R164, 10_state.md R29). -/
def execWrClkdiv (data : Word) (s : State) : StepResult :=
  if s.en || clkdivDiv data == 0#16 then .next (raiseCfgerr s)
  else .next ((s.setDiv (clkdivDiv data)).setDivcnt 0#16)

/-- Whether a TXDATA write holds: the Channel is full (43_channel_host_ops.md R166). -/
def txdataHeld (s : State) : Bool := level s == s.depth

/-- `WR TXDATA, DATA`: push one Word; on a full Channel the write holds, which changes nothing
(43_channel_host_ops.md R166). The step keeps a held write pending (log entry 3). -/
def execWrTxdata (data : Word) (s : State) : StepResult :=
  if txdataHeld s then .next s else enqueue data s

/-- `WR STATUS, DATA`: bit 16 clears `CFGERR`; nothing else can be written (43_channel_host_ops.md R168). -/
def execWrStatus (data : Word) (s : State) : StepResult :=
  .next (if statusClears data then s.setCfgerr false else s)

end Sys2Proof.Machine
end

