-- ==== Sys2Proof/Machine/Parallel.lean ====
section
/-! DEFINITION. The micro-states of the clocked parallel-bus encoder, in its Concurrent variant (42_parallel_encoder.md
R141-R143) and its Data-settled variant (R144-R148), and the codes of MODE 0b11 (40_clock_divider.md R103). -/

namespace Sys2Proof.Machine

/-- The Wait state of both variants: clock low; the next Word enters `OSR` and `T` goes to 1, or a stall that changes
nothing more (42_parallel_encoder.md R141, R144). -/
def fetchParallel (s : State) : StepResult :=
  let low := s.setParClk false
  if level s = 0 then .next low
  else withDequeued low (fun w s' => .next ((s'.setOsr w).setT 1#3))

/-- The data lines take bits 7:0 of the Word in `OSR`, the clock the level `clk` (42_parallel_encoder.md R142, R145). -/
def driveData (clk : Bool) (t : BitVec 3) (s : State) : StepResult :=
  .next (((s.setParD (parallelData s.osr)).setParClk clk).setT t)

/-- Clock high, data lines not written (42_parallel_encoder.md R146, R147). -/
def clockHigh (t : BitVec 3) (s : State) : StepResult := .next ((s.setParClk true).setT t)

/-- `PARC_FETCH` (42_parallel_encoder.md R141). -/
def execParcFetch (s : State) : StepResult := fetchParallel s

/-- `PARC_XFER` (42_parallel_encoder.md R142). -/
def execParcXfer (s : State) : StepResult := driveData true 0#3 s

/-- `T` = 2, 3 in PAR_CONCURRENT: reached by no rule, a model fault (42_parallel_encoder.md R143). -/
def execParcUnreachable23 (_t : BitVec 3) (_s : State) : StepResult := .fault .unreachableUstate

/-- `T` = 4..7 in PAR_CONCURRENT: reached by no rule, a model fault (42_parallel_encoder.md R143). -/
def execParcUnreachable47 (_t : BitVec 3) (_s : State) : StepResult := .fault .unreachableUstate

/-- `PARS_FETCH` (42_parallel_encoder.md R144). -/
def execParsFetch (s : State) : StepResult := fetchParallel s

/-- `PARS_DUPD` (42_parallel_encoder.md R145). -/
def execParsDupd (s : State) : StepResult := driveData false 2#3 s

/-- `PARS_CLKH` (42_parallel_encoder.md R146). -/
def execParsClkh (s : State) : StepResult := clockHigh 3#3 s

/-- `PARS_HOLD` (42_parallel_encoder.md R147). -/
def execParsHold (s : State) : StepResult := clockHigh 0#3 s

/-- `T` = 4..7 in PAR_SETTLED: reached by no rule, a model fault (42_parallel_encoder.md R148). -/
def execParsUnreachable (_t : BitVec 3) (_s : State) : StepResult := .fault .unreachableUstate

/-- MODE 0b11, never held: a tick there is a model fault (40_clock_divider.md R103, 10_state.md R23). -/
def execMode3Unreachable (_t : BitVec 3) (_s : State) : StepResult := .fault .unreachableUstate

end Sys2Proof.Machine
end

