-- ==== Sys2Proof/Machine/Pulse.lean ====
section
/-! DEFINITION. The micro-states of the pulse-width bit encoder (41_pulse_encoder.md R121-R127). -/

namespace Sys2Proof.Machine

/-- Takes the next payload bit from `OSR`: `CUR` gets bit 31, `OSR` shifts left by one, one bit fewer is left, `T`
goes to 1 (41_pulse_encoder.md R121, the end of the pseudocode). -/
def takeBit (s : State) : State :=
  (((s.setCur (nextPayloadBit s.osr)).setOsr (s.osr <<< 1)).setBitsLeft (s.bitsLeft - 1#5)).setT 1#3

/-- A dequeued Word enters `OSR` with all its payload bits left to send (41_pulse_encoder.md R121). -/
def loadWord (w : Word) (s : State) : State := (s.setOsr w).setBitsLeft (BitVec.ofNat 5 Config.payloadBits)

/-- Drives the line and moves the bit timer on: the whole effect of the five micro-states after the fetch
(41_pulse_encoder.md R122-R126). -/
def driveLine (v : Bool) (t : BitVec 3) (s : State) : StepResult := .next ((s.setPulseOut v).setT t)

/-- `PULSE_FETCH` (41_pulse_encoder.md R121): line low; the next bit of `OSR`, or of the next Word; a stall where
there is neither, which changes nothing more. -/
def execPulseFetch (s : State) : StepResult :=
  let low := s.setPulseOut false
  if s.bitsLeft = 0#5 then
    if level s = 0 then .next low
    else withDequeued low (fun w s' => .next (takeBit (loadWord w s')))
  else .next (takeBit low)

/-- `PULSE_LEAD0` (41_pulse_encoder.md R122). -/
def execPulseLead0 (s : State) : StepResult := driveLine true 2#3 s

/-- `PULSE_LEAD1` (41_pulse_encoder.md R123). -/
def execPulseLead1 (s : State) : StepResult := driveLine true 3#3 s

/-- `PULSE_DATA0` (41_pulse_encoder.md R124). -/
def execPulseData0 (s : State) : StepResult := driveLine s.cur 4#3 s

/-- `PULSE_DATA1` (41_pulse_encoder.md R125). -/
def execPulseData1 (s : State) : StepResult := driveLine s.cur 5#3 s

/-- `PULSE_TRAIL0` (41_pulse_encoder.md R126). -/
def execPulseTrail0 (s : State) : StepResult := driveLine false 0#3 s

/-- `T` = 6, 7 in PULSE: reached by no rule, a model fault (41_pulse_encoder.md R127). -/
def execPulseUnreachable (_t : BitVec 3) (_s : State) : StepResult := .fault .unreachableUstate

end Sys2Proof.Machine
end

