-- ==== Sys2Proof/Machine/Dispatch.lean ====
section
/-! DEFINITION. One arm per instruction: its meaning. -/

namespace Sys2Proof.Machine

def exec (i : Instr) (s : State) : Host.Outcome State Fault Refusal :=
  match i with
  -- host register operations (43_channel_host_ops.md)
  | .rdCtrl => Sys2Proof.Machine.execRdCtrl s
  | .wrCtrl data => Sys2Proof.Machine.execWrCtrl data s
  | .rdClkdiv => Sys2Proof.Machine.execRdClkdiv s
  | .wrClkdiv data => Sys2Proof.Machine.execWrClkdiv data s
  | .rdTxdata => Sys2Proof.Machine.execRdTxdata s
  | .wrTxdata data => Sys2Proof.Machine.execWrTxdata data s
  | .rdStatus => Sys2Proof.Machine.execRdStatus s
  | .wrStatus data => Sys2Proof.Machine.execWrStatus data s
  | .rdReserved10 off => Sys2Proof.Machine.execRdReserved10 off s
  | .rdReserved20 off => Sys2Proof.Machine.execRdReserved20 off s
  | .wrReserved10 off data => Sys2Proof.Machine.execWrReserved10 off data s
  | .wrReserved20 off data => Sys2Proof.Machine.execWrReserved20 off data s
  | .refusedByte a off => Sys2Proof.Machine.execRefusedByte a off s
  | .refusedHalfword a off => Sys2Proof.Machine.execRefusedHalfword a off s
  | .refusedSize3 a off => Sys2Proof.Machine.execRefusedSize3 a off s
  | .refusedOdd a off => Sys2Proof.Machine.execRefusedOdd a off s
  | .refusedOff2 a off => Sys2Proof.Machine.execRefusedOff2 a off s
  -- pulse encoder micro-states (41_pulse_encoder.md)
  | .pulseFetch => Sys2Proof.Machine.execPulseFetch s
  | .pulseLead0 => Sys2Proof.Machine.execPulseLead0 s
  | .pulseLead1 => Sys2Proof.Machine.execPulseLead1 s
  | .pulseData0 => Sys2Proof.Machine.execPulseData0 s
  | .pulseData1 => Sys2Proof.Machine.execPulseData1 s
  | .pulseTrail0 => Sys2Proof.Machine.execPulseTrail0 s
  | .pulseUnreachable t => Sys2Proof.Machine.execPulseUnreachable t s
  -- parallel encoder micro-states (42_parallel_encoder.md)
  | .parcFetch => Sys2Proof.Machine.execParcFetch s
  | .parcXfer => Sys2Proof.Machine.execParcXfer s
  | .parcUnreachable23 t => Sys2Proof.Machine.execParcUnreachable23 t s
  | .parcUnreachable47 t => Sys2Proof.Machine.execParcUnreachable47 t s
  | .parsFetch => Sys2Proof.Machine.execParsFetch s
  | .parsDupd => Sys2Proof.Machine.execParsDupd s
  | .parsClkh => Sys2Proof.Machine.execParsClkh s
  | .parsHold => Sys2Proof.Machine.execParsHold s
  | .parsUnreachable t => Sys2Proof.Machine.execParsUnreachable t s
  | .mode3Unreachable t => Sys2Proof.Machine.execMode3Unreachable t s

end Sys2Proof.Machine
end

