-- ==== Sys2Proof/Machine/Clock.lean ====
section
/-! DEFINITION. The clock divider and the sequencer tick (40_clock_divider.md R101-R104). -/

namespace Sys2Proof.Machine

/-- The `USTATE` code {`MODE`, `T`}: the sequencer's whole control position (10_state.md R26, 30_encoding.md R83). -/
def ustate (s : State) : BitVec 5 := ustateOf s.mode s.t

/-- Whether a SYSCLK step taken now is a tick (40_clock_divider.md R102). -/
def tickDue (s : State) : Bool := s.en && s.divcnt == s.div - 1#16

/-- One sequencer tick: the micro-state rule the `USTATE` code selects (40_clock_divider.md R103). -/
def tick (s : State) : StepResult := exec (decodeUstate (ustate s)) s

/-- One SYSCLK step: no change while disabled (40_clock_divider.md R101); while enabled, a tick when the divider fires,
else one more count (R102). -/
def sysclk (s : State) : StepResult :=
  if s.en then
    if s.divcnt = s.div - 1#16 then tick (s.setDivcnt 0#16) else .next (s.setDivcnt (s.divcnt + 1#16))
  else .next s

end Sys2Proof.Machine
end

