-- ==== Sys2Proof/Machine/Invariants.lean ====
section
/-! DEFINITION. The invariants of 10_state.md R41. A state that breaks one is a model fault (60_exceptions.md R195). -/

namespace Sys2Proof.Machine

/-- R41 (1) and (5): MODE is legal and `T` is in its range for MODE (10_state.md R23, R26). -/
def positionOk (s : State) : Bool :=
  (s.mode == 0b00#2 && s.t.toNat ≤ 5) || (s.mode == 0b01#2 && s.t.toNat ≤ 1) || (s.mode == 0b10#2 && s.t.toNat ≤ 3)

/-- R41 (2) and (3): `1 ≤ DIV` and `DIVCNT < DIV`. -/
def dividerOk (s : State) : Bool := 1 ≤ s.div.toNat && s.divcnt.toNat < s.div.toNat

/-- R41 (4), with the range of the parameter `CHANNEL_DEPTH` (00_scope.md R4). -/
def channelOk (s : State) : Bool :=
  1 ≤ s.depth && s.depth ≤ Config.channelDepthMax && level s ≤ s.depth

/-- R41 (6): `BITS_LEFT ≤ 23`. -/
def bitsLeftOk (s : State) : Bool := s.bitsLeft.toNat ≤ 23

/-- R41 (7): in PULSE, `OSR[23 - BITS_LEFT : 0]` = 0. -/
def zeroFillOk (s : State) : Bool :=
  s.mode != 0b00#2 || s.osr.toNat % 2 ^ (24 - s.bitsLeft.toNat) == 0

/-- R41 (8): in the PAR modes, `BITS_LEFT` = 0 and `CUR` = 0. -/
def parallelIdleOk (s : State) : Bool :=
  (s.mode != 0b01#2 && s.mode != 0b10#2) || (s.bitsLeft == 0#5 && !s.cur)

/-- R41 without (1) and (5): what a tick can rely on before its `USTATE` is looked at. -/
def dataOk (s : State) : Bool :=
  dividerOk s && channelOk s && bitsLeftOk s && zeroFillOk s && parallelIdleOk s

/-- R41, all of it. -/
def invariantsOk (s : State) : Bool := dataOk s && positionOk s

end Sys2Proof.Machine
end

