-- ==== Sys2Proof/Machine/Agents.lean ====
section
/-! DEFINITION. The agents and their interleaving (00_scope.md R8, 20_memory.md R70, 60_exceptions.md R193, R199): which
input comes next, the HOST step, the SYSCLK step, the reset, and how a code is presented to the machine. -/

namespace Sys2Proof.Machine

/-- The next input and the state without it: the head of the list, or the free value when the list is empty
(00_scope.md R8, log entries 1 and 2). -/
def takeInput (s : State) : Input × State :=
  match s.inputs with
  | i :: rest => (i, s.setInputs rest)
  | [] => (Config.nextInput s.inputCount, s.setInputCount (s.inputCount + 1))

/-- Whether the HOST agent has no enabled step for an operation: a TXDATA write on a full Channel holds
(43_channel_host_ops.md R166, 60_exceptions.md R195). -/
def hostHeld (i : Instr) (s : State) : Bool :=
  match i with
  | .wrTxdata _ => txdataHeld s
  | _ => false

/-- The first input that is not the HOST's, and the list without it. -/
def splitOther : List Input → Option (Input × List Input)
  | [] => none
  | .sysclk :: rest => some (.sysclk, rest)
  | .reset :: rest => some (.reset, rest)
  | .access code data :: rest => (splitOther rest).map fun (i, rest') => (i, .access code data :: rest')

/-- What comes while the HOST agent is held: the first clock edge or reset listed, or, where none is listed, the free
value's choice of the two (43_channel_host_ops.md R166, 70_reset_and_hazards.md R210, log entry 3). The operations of
the HOST stay in their order. -/
def takeOther (s : State) : Input × State :=
  match splitOther s.inputs with
  | some (i, rest) => (i, s.setInputs rest)
  | none => (if Config.nextInput s.inputCount = .reset then .reset else .sysclk, s.setInputCount (s.inputCount + 1))

/-- The next enabled input and the state without it (00_scope.md R8): the next input, unless it is an operation that
holds, which then stays pending, first in order (log entry 3). -/
def nextEnabled (s : State) : Input × State :=
  match takeInput s with
  | (.access code data, s') =>
    if hostHeld (decodeHostacc code data) s then takeOther (s'.setInputs (.access code data :: s'.inputs))
    else (.access code data, s')
  | (.sysclk, s') => (.sysclk, s')
  | (.reset, s') => (.reset, s')

/-- The SYSCLK agent's step. A state that breaks 10_state.md R41 is `fault(invariant)`; the position clauses are the
tick dispatch's own to judge, which answers `fault(unreachable_ustate)` (60_exceptions.md R195, log entry 8). -/
def sysclkTurn (s : State) : StepResult :=
  if dataOk s && (tickDue s || positionOk s) then sysclk s else .fault .invariant

/-- The HOST agent's step, an operation that does not hold. A state that breaks 10_state.md R41 is `fault(invariant)`
(60_exceptions.md R195, log entry 8). -/
def hostTurn (code : BitVec 9) (data : Word) (s : State) : StepResult :=
  if invariantsOk s then exec (decodeHostacc code data) s else .fault .invariant

/-- One step of the machine. A run that took a refused access stays refused, reset included (60_exceptions.md R195,
90_conflicts.md C7, log entry 6). -/
def stepAgents (s : State) : StepResult :=
  if s.refused then .refused .unsupportedAccess
  else
    match nextEnabled s with
    | (.access code data, s') => hostTurn code data s'
    | (.sysclk, s') => sysclkTurn s'
    | (.reset, s') => .next (applyReset s')

/-- Puts the sequencer at a `USTATE` code so that the next SYSCLK step is its tick; a change of MODE clears the
sequencer as every MODE change does (log entry 11). -/
def placeSequencer (u : BitVec 5) (s : State) : State :=
  let s1 := if ustateMode u ≠ s.mode then changeMode (ustateMode u) s else s
  ((s1.setT (ustateT u)).setEn true).setDivcnt (s1.div - 1#16)

/-- Presents an instruction's word to the machine: a `HOSTACC` as the next host operation, a `USTATE` as the position
of the sequencer at the next tick (log entry 11). -/
def presentWord (s : State) (nbits w : Nat) : State :=
  match formatOfWidth nbits with
  | .hostacc =>
    (s.setRefused false).setInputs (.access (BitVec.ofNat 9 w) (BitVec.ofNat 32 (w / 65536)) :: s.inputs)
  | .ustate => ((placeSequencer (BitVec.ofNat 5 w) s).setRefused false).setInputs (.sysclk :: s.inputs)

end Sys2Proof.Machine
end

