-- ==== Sys2Proof/Machine/Step.lean ====
section
/-! DEFINITION. The step of the machine, and how the host places an instruction where the next step runs it. -/

namespace Sys2Proof.Machine

/-- One step: one HOST operation, one SYSCLK edge, or one reset (00_scope.md R8). -/
def step (s : State) : Host.Outcome State Fault Refusal := stepAgents s

/-- `s` with an instruction's word placed so that the very next step runs it (log entry 11). -/
def State.withFetchWord (s : State) (nbits w : Nat) : State := presentWord s nbits w

end Sys2Proof.Machine
end

