-- ==== Sys2Proof/Machine/HostProgram.lean ====
section
/-! DEFINITION. Host programs: the pseudo-instructions and their expansions (30_encoding.md R91), and how a host runs
them against the machine. The branch of the two WAIT loops is host code, outside the block (R91, log entry 13). -/

namespace Sys2Proof.Machine

/-- What a host does next: one register operation, a loop that reads STATUS until a bit of the result has a value, or
a delay of some SYSCLK steps. -/
inductive HostCmd where
  | op (code : BitVec 9) (data : Word)
  | readStatusUntil (bit : Nat) (want : Bool)
  | waitclk (n : Nat)
  deriving DecidableEq, Repr

/-- The pseudo-instructions of 30_encoding.md R91: `m` is a MODE code, `d` a divisor. -/
inductive Pseudo where
  | push (v : Word)
  | setdiv (d : BitVec 16)
  | setmode (m : BitVec 2)
  | enable (m : BitVec 2)
  | disable (m : BitVec 2)
  | start (m : BitVec 2) (d : BitVec 16)
  | clrerr
  | waitCapacity
  | waitEmpty
  | waitclk (n : Nat)
  | latch
  deriving DecidableEq, Repr

/-- The legal operands: a MODE code 0..2 and a divisor 1..65535 (30_encoding.md R91). -/
def Pseudo.wf : Pseudo → Bool
  | .setmode m | .enable m | .disable m => m.toNat ≤ 2
  | .setdiv d => d != 0#16
  | .start m d => m.toNat ≤ 2 && d != 0#16
  | .push _ | .clrerr | .waitCapacity | .waitEmpty | .waitclk _ | .latch => true

/-- The DATA `(m << 1) | en` of a CTRL write (30_encoding.md R91, 10_state.md R21). -/
def ctrlData (m : BitVec 2) (en : Bool) : Word := 0#29 ++ m ++ BitVec.ofBool en

/-- The DATA `d` of a CLKDIV write. -/
def clkdivData (d : BitVec 16) : Word := 0#16 ++ d

/-- The SYSCLK steps `LATCH` waits after `EMPTY`: `(143 + LATCH_TICKS) * DIV` (30_encoding.md R91,
70_reset_and_hazards.md R217). -/
def latchWaitClocks (fSysHz div : ℕ+) : Nat := (143 + Config.latchTicks fSysHz div) * div.val

/-- The expansion of a pseudo-instruction (30_encoding.md R91). `LATCH` depends on `F_SYS_HZ` and on the divisor in
use. -/
def Pseudo.expand (fSysHz div : ℕ+) : Pseudo → List HostCmd
  | .push v => [.op 0x148#9 v]
  | .setdiv d => [.op 0x144#9 (clkdivData d)]
  | .setmode m => [.op 0x140#9 (ctrlData m false)]
  | .enable m => [.op 0x140#9 (ctrlData m true)]
  | .disable m => [.op 0x140#9 (ctrlData m false)]
  | .start m d =>
    [.op 0x140#9 (ctrlData m false), .op 0x144#9 (clkdivData d), .op 0x140#9 (ctrlData m true)]
  | .clrerr => [.op 0x14C#9 0x00010000#32]
  | .waitCapacity => [.readStatusUntil 8 false]
  | .waitEmpty => [.readStatusUntil 9 true]
  | .waitclk n => [.waitclk n]
  | .latch => [.readStatusUntil 9 true, .waitclk (latchWaitClocks fSysHz div)]

/-- Steps until no input is pending; `none` if `fuel` steps do not get there. -/
def runInputs : Nat → State → Option StepResult
  | 0, s => if s.inputs.isEmpty then some (.next s) else none
  | fuel + 1, s =>
    if s.inputs.isEmpty then some (.next s)
    else
      match step s with
      | .next s' => runInputs fuel s'
      | .fault f => some (.fault f)
      | .refused r => some (.refused r)

/-- One register operation, run host-eager: while it holds, clock edges go on (43_channel_host_ops.md R166); `none` if
it still holds after `fuel` of them (70_reset_and_hazards.md R215). -/
def runOp : Nat → BitVec 9 → Word → State → Option StepResult
  | 0, _, _, _ => none
  | fuel + 1, code, data, s =>
    if hostHeld (decodeHostacc code data) s then
      match step (s.setInputs [.access code data, .sysclk]) with
      | .next s' => runOp fuel code data s'
      | r => some r
    else some (step (s.setInputs [.access code data]))

/-- The STATUS loop of `WAIT_CAPACITY` and `WAIT_EMPTY`: one `RD STATUS` between two SYSCLK steps, until bit `bit` of
the result is `want` (30_encoding.md R91). -/
def pollStatus : Nat → Nat → Bool → State → Option StepResult
  | 0, _, _, _ => none
  | fuel + 1, bit, want, s =>
    match step (s.setInputs [.access 0x10C#9 0#32]) with
    | .next s' =>
      if (s'.result.getD 0#32).getLsbD bit = want then some (.next s')
      else
        match step (s'.setInputs [.sysclk]) with
        | .next s'' => pollStatus fuel bit want s''
        | r => some r
    | r => some r

/-- One host command, run host-eager: the host takes every step it can before the next SYSCLK step. -/
def runCmd (fuel : Nat) (s : State) : HostCmd → Option StepResult
  | .op code data => runOp fuel code data s
  | .readStatusUntil bit want => pollStatus fuel bit want s
  | .waitclk n => runInputs n (s.setInputs (List.replicate n .sysclk))

/-- A host program, run host-eager; `none` if some command does not end within `fuel` steps. -/
def runProgram (fuel : Nat) : List HostCmd → State → Option StepResult
  | [], s => some (.next s)
  | c :: rest, s =>
    match runCmd fuel s c with
    | some (.next s') => runProgram fuel rest s'
    | r => r

end Sys2Proof.Machine
end

