-- ==== Sys2Proof/Safety.lean ====
section
/-! DEFINITION. What counts as a safe run, and the words claims are stated in: the invariant, runs of sequencer ticks,
the levels the ports take, and the waveforms of 41_pulse_encoder.md R128, R129 and 42_parallel_encoder.md. -/

namespace Sys2Proof.Safety

open Sys2Proof.Machine

/-- The invariants of 10_state.md R41, with the range of the parameter `CHANNEL_DEPTH`. -/
abbrev InvariantsHold (s : State) : Prop := invariantsOk s = true

/-- A state a claim may be about: not marked refused (60_exceptions.md R195), and within the invariants. -/
abbrev Live (s : State) : Prop := s.refused = false ∧ InvariantsHold s

/-- `n` consecutive sequencer ticks (00_scope.md R9), stopping at the first that gives no next state. -/
def ticks : Nat → State → StepResult
  | 0, s => .next s
  | n + 1, s =>
    match tick s with
    | .next s' => ticks n s'
    | .fault f => .fault f
    | .refused r => .refused r

/-- What `look` sees after each of `n` consecutive ticks. -/
def tickTrace {α : Type} (look : State → α) : Nat → State → List α
  | 0, _ => []
  | n + 1, s =>
    match tick s with
    | .next s' => look s' :: tickTrace look n s'
    | .fault _ => []
    | .refused _ => []

/-- `PULSE_OUT` after each of `n` ticks. -/
def lineTrace (n : Nat) (s : State) : List Bool := tickTrace (fun s => s.pulseOut) n s

/-- `PAR_CLK` and `PAR_D` after each of `n` ticks. -/
def busTrace (n : Nat) (s : State) : List (Bool × BitVec 8) := tickTrace (fun s => (s.parClk, s.parD)) n s

/-- The payload of a pulse Word in the order it is sent: bit 31 down to bit 8 (20_memory.md R65). -/
def payload (w : Word) : List Bool := (List.range Config.payloadBits).map (fun i => w.getLsbD (31 - i))

/-- The line over the six ticks of one bit: 0, 1, 1, b, b, 0 (41_pulse_encoder.md R128). -/
def bitWave (b : Bool) : List Bool := [false, true, true, b, b, false]

/-- The line over the 144 ticks of one Word (41_pulse_encoder.md R129). -/
def wordWave (w : Word) : List Bool := (payload w).flatMap bitWave

/-- The bus over the Concurrent transfers of some Words, `d` being on the data lines before them
(42_parallel_encoder.md R141, R142). -/
def parcWave (d : BitVec 8) : List Word → List (Bool × BitVec 8)
  | [] => []
  | w :: ws => (false, d) :: (true, w.extractLsb' 0 8) :: parcWave (w.extractLsb' 0 8) ws

/-- The bus over the Data-settled transfers of some Words, `d` being on the data lines before them
(42_parallel_encoder.md R144-R147). -/
def parsWave (d : BitVec 8) : List Word → List (Bool × BitVec 8)
  | [] => []
  | w :: ws =>
    (false, d) :: (false, w.extractLsb' 0 8) :: (true, w.extractLsb' 0 8) :: (true, w.extractLsb' 0 8) ::
      parsWave (w.extractLsb' 0 8) ws

/-- The place of `T` after a tick that does not stall (40_clock_divider.md R104). -/
def nextT (mode : BitVec 2) (t : BitVec 3) : BitVec 3 :=
  if (mode = 0b00#2 ∧ t = 5#3) ∨ (mode = 0b01#2 ∧ t = 1#3) ∨ (mode = 0b10#2 ∧ t = 3#3) then 0#3 else t + 1#3

end Sys2Proof.Safety
end

