-- ==== Sys2Proof/Certificates/Slice0/Obligations.lean ====
section
/-! DEFINITION. The statements for the provers, each from a numbered rule of spec/. -/

open Sys2Proof Sys2Proof.Machine Sys2Proof.Safety

/-! ## Host register operations (43_channel_host_ops.md) -/

/-- R161: `RD CTRL` (0x100) returns {29'b0, MODE, EN} and changes nothing else. -/
def Obligations.RdCtrlReturnsModeAndEnable : Prop :=
  ∀ (s : State) (data : Word),
    decodeHostacc 0x100#9 data = .rdCtrl ∧
    exec .rdCtrl s = .next { s with result := some (0#29 ++ s.mode ++ BitVec.ofBool s.en) }

/-- R163: `RD CLKDIV` (0x104) returns {16'b0, DIV} and changes nothing else; in a state within the invariants the
value is never 0. -/
def Obligations.RdClkdivReturnsDivisor : Prop :=
  ∀ (s : State) (data : Word),
    decodeHostacc 0x104#9 data = .rdClkdiv ∧
    exec .rdClkdiv s = .next { s with result := some (0#16 ++ s.div) } ∧
    (InvariantsHold s → (0#16 ++ s.div : Word) ≠ 0#32)

/-- R165: `RD TXDATA` (0x108) returns 0 and changes nothing else, the Channel included. -/
def Obligations.RdTxdataReturnsZero : Prop :=
  ∀ (s : State) (data : Word),
    decodeHostacc 0x108#9 data = .rdTxdata ∧
    exec .rdTxdata s = .next { s with result := some 0x00000000#32 }

/-- R167: `RD STATUS` (0x10C) returns zext_32({CFGERR, 6'b0, EMPTY, FULL, LEVEL}) and changes nothing else; with a
Channel of depth 1, FULL and EMPTY are complements. -/
def Obligations.RdStatusReturnsOccupancyAndError : Prop :=
  ∀ (s : State) (data : Word),
    decodeHostacc 0x10C#9 data = .rdStatus ∧
    exec .rdStatus s = .next { s with
      result := some
        ((BitVec.ofBool s.cfgerr ++ 0#6 ++ BitVec.ofBool (decide (s.q.length = 0)) ++
          BitVec.ofBool (decide (s.q.length = s.depth)) ++ BitVec.ofNat 8 s.q.length : BitVec 17).zeroExtend 32) } ∧
    (s.depth = 1 → s.q.length ≤ s.depth → decide (s.q.length = 0) = !decide (s.q.length = s.depth))

/-- R162, its pseudocode line by line: `WR CTRL` (0x140). -/
def Obligations.WrCtrlFollowsItsPseudocode : Prop :=
  ∀ (s : State) (data : Word),
    decodeHostacc 0x140#9 data = .wrCtrl data ∧
    exec (.wrCtrl data) s =
      (let newEN := data.getLsbD 0
       let newMODE := data.extractLsb' 1 2
       let err1 := decide (newMODE = 0b11#2)
       let newMODE1 := if err1 then s.mode else newMODE
       let err2 := s.en && decide (newMODE1 ≠ s.mode)
       let newMODE2 := if err2 then s.mode else newMODE1
       let s1 :=
         if newMODE2 ≠ s.mode then
           { s with
             mode := newMODE2, t := 0#3, osr := 0#32, bitsLeft := 0#5, cur := false,
             pulseOut := false, parD := 0#8, parClk := false }
         else s
       let s2 := if s.en = false ∧ newEN = true then { s1 with divcnt := 0#16 } else s1
       let s3 := { s2 with en := newEN }
       .next (if err1 || err2 then { s3 with cfgerr := true } else s3))

/-- 20_memory.md R68, as far as R162 bears it out: a second write of the same value to CTRL changes nothing more,
unless the write clears EN and asks for another legal MODE at once; there the second write does change MODE (log entry
17). Derived. -/
def Obligations.WrCtrlRepeatedChangesNothingMore : Prop :=
  ∀ (s t : State) (data : Word), exec (.wrCtrl data) s = .next t →
    (¬ (s.en = true ∧ ctrlEn data = false ∧ ctrlMode data ≠ 0b11#2 ∧ ctrlMode data ≠ s.mode) →
      exec (.wrCtrl data) t = .next t) ∧
    (s.en = true ∧ ctrlEn data = false ∧ ctrlMode data ≠ 0b11#2 ∧ ctrlMode data ≠ s.mode →
      ∃ u, exec (.wrCtrl data) t = .next u ∧ u.mode = ctrlMode data ∧ t.mode = s.mode)

/-- R164: `WR CLKDIV` (0x144) sets DIV from DATA[15:0] and clears DIVCNT while EN = 0 and the value is not 0; else it
only sets CFGERR. -/
def Obligations.WrClkdivSetsDivisorOrReportsError : Prop :=
  ∀ (s : State) (data : Word),
    decodeHostacc 0x144#9 data = .wrClkdiv data ∧
    (s.en = true ∨ data.extractLsb' 0 16 = 0#16 → exec (.wrClkdiv data) s = .next { s with cfgerr := true }) ∧
    (s.en = false → data.extractLsb' 0 16 ≠ 0#16 →
      exec (.wrClkdiv data) s = .next { s with div := data.extractLsb' 0 16, divcnt := 0#16 })

/-- R166 with the Enqueue of R62: `WR TXDATA` (0x148) appends the whole Word at the tail while the Channel has room, in
every MODE, enabled or not. On a full Channel it holds: nothing changes, the HOST agent has no step, and the next clock
edge listed takes the step while the write stays first and the operations after it wait in their order (how it waits:
log entry 3; where no edge and no reset is listed the free value says which of the two comes). A Channel over its
depth, which no run reaches, makes the call of Enqueue break its guarantee: fault(invariant). -/
def Obligations.WrTxdataEnqueuesOrHolds : Prop :=
  (∀ (s : State) (data : Word),
    decodeHostacc 0x148#9 data = .wrTxdata data ∧
    (s.q.length < s.depth → exec (.wrTxdata data) s = .next { s with q := s.q ++ [data] }) ∧
    (s.q.length = s.depth → exec (.wrTxdata data) s = .next s) ∧
    (s.depth < s.q.length → exec (.wrTxdata data) s = .fault .invariant)) ∧
  (∀ (s : State) (data : Word) (ops rest : List Input), Live s → s.q.length = s.depth →
    (∀ a ∈ ops, ∃ acc d, a = .access acc d) → s.inputs = .access 0x148#9 data :: (ops ++ .sysclk :: rest) →
    step s = sysclk { s with inputs := .access 0x148#9 data :: (ops ++ rest) }) ∧
  (∀ (s : State) (data : Word) (ops : List Input), Live s → s.q.length = s.depth →
    (∀ a ∈ ops, ∃ acc d, a = .access acc d) → s.inputs = .access 0x148#9 data :: ops →
    step s =
      if Config.nextInput s.inputCount = .reset then .next (applyReset { s with inputCount := s.inputCount + 1 })
      else sysclk { s with inputCount := s.inputCount + 1 })

/-- R168: `WR STATUS` (0x14C) clears CFGERR when DATA[16] = 1 and does nothing else. -/
def Obligations.WrStatusClearsConfigError : Prop :=
  ∀ (s : State) (data : Word),
    decodeHostacc 0x14C#9 data = .wrStatus data ∧
    (data.getLsbD 16 = true → exec (.wrStatus data) s = .next { s with cfgerr := false }) ∧
    (data.getLsbD 16 = false → exec (.wrStatus data) s = .next s)

/-- R169: at every reserved offset, 0x10 to 0x3C in steps of 4, a read returns 0 and a write changes nothing. -/
def Obligations.ReservedOffsetsReadZeroIgnoreWrites : Prop :=
  (∀ (s : State) (data : Word) (off : BitVec 6), 0x10 ≤ off.toNat → off.toNat % 4 = 0 →
    exec (decodeHostacc (0b10#2 ++ 0#1 ++ off) data) s = .next { s with result := some 0x00000000#32 } ∧
    exec (decodeHostacc (0b10#2 ++ 1#1 ++ off) data) s = .next s) ∧
  (∀ (s : State) (data : Word) (off : BitVec 6),
    exec (.rdReserved10 off) s = .next { s with result := some 0x00000000#32 } ∧
    exec (.rdReserved20 off) s = .next { s with result := some 0x00000000#32 } ∧
    exec (.wrReserved10 off data) s = .next s ∧
    exec (.wrReserved20 off data) s = .next s)

/-- R170: every access whose SIZE is not word or whose offset is misaligned marks the state REFUSED. That the rest of the
state stays is the model's choice (log entry 7). -/
def Obligations.UnsupportedAccessesMarkTheRunRefused : Prop :=
  (∀ (s : State) (acc : BitVec 9) (data : Word),
    acc.extractLsb' 7 2 ≠ 0b10#2 ∨ acc.extractLsb' 0 2 ≠ 0b00#2 →
      exec (decodeHostacc acc data) s = .next { s with refused := true }) ∧
  (∀ (s : State) (a : Access) (off : BitVec 6),
    exec (.refusedByte a off) s = .next { s with refused := true } ∧
    exec (.refusedHalfword a off) s = .next { s with refused := true } ∧
    exec (.refusedSize3 a off) s = .next { s with refused := true } ∧
    exec (.refusedOdd a off) s = .next { s with refused := true } ∧
    exec (.refusedOff2 a off) s = .next { s with refused := true })

/-- R195, 90_conflicts.md C7 (that the step refuses is log entry 6): a refused run takes no further step, whatever its
next input, reset included; and only a refused access marks a run. -/
def Obligations.RefusedRunsStayRefused : Prop :=
  (∀ s : State, s.refused = true → step s = .refused .unsupportedAccess) ∧
  (∀ s s' : State, step s = .next s' →
    (s'.refused = true ↔ ∃ acc data, (nextEnabled s).1 = .access acc data ∧
      (acc.extractLsb' 7 2 ≠ 0b10#2 ∨ acc.extractLsb' 0 2 ≠ 0b00#2)))

/-! ## Pulse encoder micro-states (41_pulse_encoder.md) -/

/-- R121: `PULSE_FETCH` (USTATE 00000). The line goes low. With payload bits left the next one is taken from OSR and Q
is not looked at; with none left and a Word in the Channel, that Word is dequeued and its bit 31 taken; with neither,
a stall that changes nothing more. -/
def Obligations.PulseFetchTakesTheNextBitOrStalls : Prop :=
  decodeUstate 0b00000#5 = .pulseFetch ∧
  ∀ s : State,
    (s.bitsLeft ≠ 0#5 → exec .pulseFetch s = .next { s with
      pulseOut := false, cur := s.osr.getLsbD 31, osr := s.osr <<< 1, bitsLeft := s.bitsLeft - 1#5, t := 1#3 }) ∧
    (∀ w rest, s.bitsLeft = 0#5 → s.q = w :: rest → exec .pulseFetch s = .next { s with
      pulseOut := false, cur := w.getLsbD 31, osr := w <<< 1, bitsLeft := 23#5, t := 1#3, q := rest }) ∧
    (s.bitsLeft = 0#5 → s.q = [] → exec .pulseFetch s = .next { s with pulseOut := false })

/-- R122, R123: the two Lead-high ticks drive the line high whatever CUR is. -/
def Obligations.PulseLeadTicksDriveTheLineHigh : Prop :=
  decodeUstate 0b00001#5 = .pulseLead0 ∧ decodeUstate 0b00010#5 = .pulseLead1 ∧
  ∀ s : State,
    exec .pulseLead0 s = .next { s with pulseOut := true, t := 2#3 } ∧
    exec .pulseLead1 s = .next { s with pulseOut := true, t := 3#3 }

/-- R124, R125: the two Data ticks drive the line to CUR. -/
def Obligations.PulseDataTicksDriveTheCurrentBit : Prop :=
  decodeUstate 0b00011#5 = .pulseData0 ∧ decodeUstate 0b00100#5 = .pulseData1 ∧
  ∀ s : State,
    exec .pulseData0 s = .next { s with pulseOut := s.cur, t := 4#3 } ∧
    exec .pulseData1 s = .next { s with pulseOut := s.cur, t := 5#3 }

/-- R126: the first Trail-low tick drives the line low and returns to the fetch tick. -/
def Obligations.PulseTrailTickDrivesTheLineLow : Prop :=
  decodeUstate 0b00101#5 = .pulseTrail0 ∧
  ∀ s : State, exec .pulseTrail0 s = .next { s with pulseOut := false, t := 0#3 }

/-- R127: USTATE 00110 and 00111 are reached by no step from a state within the invariants, and a tick there is a model
fault. -/
def Obligations.UnreachablePulseCodesFault : Prop :=
  (∀ (t : BitVec 3) (s : State), exec (.pulseUnreachable t) s = .fault .unreachableUstate) ∧
  (∀ s : State, s.mode = 0b00#2 → 6 ≤ s.t.toNat → tick s = .fault .unreachableUstate) ∧
  (∀ s s' : State, InvariantsHold s → step s = .next s' → ¬ (s'.mode = 0b00#2 ∧ 6 ≤ s'.t.toNat))

/-! ## Parallel encoder micro-states (42_parallel_encoder.md) -/

/-- R141, R144: the Wait state of both variants. The clock goes low; a Word in the Channel enters OSR and T goes to 1;
with an empty Channel, a stall in which the data lines keep their value. -/
def Obligations.ParallelFetchTakesTheNextWordOrStalls : Prop :=
  decodeUstate 0b01000#5 = .parcFetch ∧ decodeUstate 0b10000#5 = .parsFetch ∧
  ∀ s : State,
    (∀ w rest, s.q = w :: rest →
      exec .parcFetch s = .next { s with parClk := false, osr := w, q := rest, t := 1#3 } ∧
      exec .parsFetch s = .next { s with parClk := false, osr := w, q := rest, t := 1#3 }) ∧
    (s.q = [] →
      exec .parcFetch s = .next { s with parClk := false } ∧
      exec .parsFetch s = .next { s with parClk := false })

/-- R142: `PARC_XFER` puts OSR[i] on data line i and raises the clock in the same tick. -/
def Obligations.ConcurrentTransferDrivesDataAndClock : Prop :=
  decodeUstate 0b01001#5 = .parcXfer ∧
  ∀ s : State, ∃ d : BitVec 8, (∀ i, i < 8 → d.getLsbD i = s.osr.getLsbD i) ∧
    exec .parcXfer s = .next { s with parD := d, parClk := true, t := 0#3 }

/-- R145: `PARS_DUPD` puts OSR[i] on data line i with the clock still low. -/
def Obligations.SettledDataUpdateKeepsTheClockLow : Prop :=
  decodeUstate 0b10001#5 = .parsDupd ∧
  ∀ s : State, ∃ d : BitVec 8, (∀ i, i < 8 → d.getLsbD i = s.osr.getLsbD i) ∧
    exec .parsDupd s = .next { s with parD := d, parClk := false, t := 2#3 }

/-- R146, R147: the two clock-high ticks of the Data-settled variant do not write the data lines. -/
def Obligations.SettledClockTicksHoldTheData : Prop :=
  decodeUstate 0b10010#5 = .parsClkh ∧ decodeUstate 0b10011#5 = .parsHold ∧
  ∀ s : State,
    exec .parsClkh s = .next { s with parClk := true, t := 3#3 } ∧
    exec .parsHold s = .next { s with parClk := true, t := 0#3 }

/-- R143, R148, and the codes of MODE 0b11 (R23, R103): reached by no step from a state within the invariants, and a tick
there is a model fault. -/
def Obligations.UnreachableParallelCodesFault : Prop :=
  (∀ (t : BitVec 3) (s : State),
    exec (.parcUnreachable23 t) s = .fault .unreachableUstate ∧
    exec (.parcUnreachable47 t) s = .fault .unreachableUstate ∧
    exec (.parsUnreachable t) s = .fault .unreachableUstate ∧
    exec (.mode3Unreachable t) s = .fault .unreachableUstate) ∧
  (∀ s : State,
    (s.mode = 0b01#2 → 2 ≤ s.t.toNat → tick s = .fault .unreachableUstate) ∧
    (s.mode = 0b10#2 → 4 ≤ s.t.toNat → tick s = .fault .unreachableUstate) ∧
    (s.mode = 0b11#2 → tick s = .fault .unreachableUstate)) ∧
  (∀ s s' : State, InvariantsHold s → step s = .next s' →
    ¬ (s'.mode = 0b01#2 ∧ 2 ≤ s'.t.toNat) ∧ ¬ (s'.mode = 0b10#2 ∧ 4 ≤ s'.t.toNat) ∧ s'.mode ≠ 0b11#2)

/-! ## Clock divider, tick and bit timer (40_clock_divider.md) -/

/-- R101: while EN = 0 a SYSCLK step changes nothing. -/
def Obligations.DisabledSysclkChangesNothing : Prop :=
  ∀ s : State, s.en = false → sysclk s = .next s

/-- R102: while EN = 1 a SYSCLK step with DIVCNT = DIV - 1 clears DIVCNT and runs a tick, any other counts one up. -/
def Obligations.EnabledSysclkTicksEveryDivSteps : Prop :=
  ∀ s : State, s.en = true →
    (s.divcnt = s.div - 1#16 → sysclk s = tick { s with divcnt := 0#16 }) ∧
    (s.divcnt ≠ s.div - 1#16 → sysclk s = .next { s with divcnt := s.divcnt + 1#16 })

/-- R103: a tick runs the one micro-state the code {MODE, T} selects, and faults at every other code. -/
def Obligations.TickRunsTheSelectedMicroState : Prop :=
  ∀ s : State,
    tick s =
      (match s.mode.toNat, s.t.toNat with
       | 0, 0 => exec .pulseFetch s
       | 0, 1 => exec .pulseLead0 s
       | 0, 2 => exec .pulseLead1 s
       | 0, 3 => exec .pulseData0 s
       | 0, 4 => exec .pulseData1 s
       | 0, 5 => exec .pulseTrail0 s
       | 1, 0 => exec .parcFetch s
       | 1, 1 => exec .parcXfer s
       | 2, 0 => exec .parsFetch s
       | 2, 1 => exec .parsDupd s
       | 2, 2 => exec .parsClkh s
       | 2, 3 => exec .parsHold s
       | _, _ => .fault .unreachableUstate)

/-- R104: each tick moves T one place along the fixed cycle of the MODE; the one exception is a stalled fetch tick,
which leaves T = 0. MODE does not change. -/
def Obligations.BitTimerFollowsItsCycle : Prop :=
  ∀ s s' : State, tick s = .next s' →
    s'.mode = s.mode ∧
    (s'.t = nextT s.mode s.t ∨
      (s.t = 0#3 ∧ s'.t = 0#3 ∧ s.q = [] ∧ (s.mode = 0b00#2 → s.bitsLeft = 0#5)))

/-- R106: after a write that enables, DIVCNT being 0, the k-th tick falls on SYSCLK step k × DIV while EN stays 1: for
every j below DIV, k × DIV + j SYSCLK steps leave exactly what k ticks leave, with DIVCNT = j. So the last step before
k × DIV leaves only k - 1 ticks done, and step k × DIV is the k-th. -/
def Obligations.KthTickFallsOnStepKTimesDiv : Prop :=
  ∀ (k j : Nat) (s : State) (rest : List Input), Live s → s.en = true → s.divcnt = 0#16 → j < s.div.toNat →
    s.inputs = List.replicate (k * s.div.toNat + j) .sysclk ++ rest →
    ∃ u, ticks k { s with inputs := rest } = .next u ∧
      Host.Core.run core (k * s.div.toNat + j) s = .next { u with divcnt := BitVec.ofNat 16 j }

/-! ## Waveforms -/

/-- R128: one bit of value b sets the line over its six ticks to 0, 1, 1, b, b, 0, and the next bit's fetch tick
follows. -/
def Obligations.PulseBitWaveform : Prop :=
  ∀ (s : State) (b : Bool), s.mode = 0b00#2 → s.t = 0#3 →
    ((s.bitsLeft ≠ 0#5 ∧ b = s.osr.getLsbD 31) ∨
      (s.bitsLeft = 0#5 ∧ ∃ w rest, s.q = w :: rest ∧ b = w.getLsbD 31)) →
    lineTrace 6 s = [false, true, true, b, b, false] ∧
    ∃ s', ticks 6 s = .next s' ∧ s'.mode = 0b00#2 ∧ s'.t = 0#3

/-- R129: Words in the Channel go out with no gap, in order, each its bits 31 down to 8 as R128 says, and each is
dequeued once. -/
def Obligations.PulseStreamWaveform : Prop :=
  ∀ (ws rest : List Word) (s : State), s.mode = 0b00#2 → s.t = 0#3 → s.bitsLeft = 0#5 → s.q = ws ++ rest →
    lineTrace (144 * ws.length) s = ws.flatMap wordWave ∧
    ∃ s', ticks (144 * ws.length) s = .next s' ∧
      s'.mode = 0b00#2 ∧ s'.t = 0#3 ∧ s'.bitsLeft = 0#5 ∧ s'.q = rest

/-- R85, 93_implementation_defined.md I2: the padding bits 7:0 of the Words in the Channel never show on the line,
whatever their value. -/
def Obligations.PaddingNeverReachesTheLine : Prop :=
  ∀ (n : Nat) (s : State) (q' : List Word), s.mode = 0b00#2 → s.bitsLeft.toNat ≤ 23 →
    List.Forall₂ (fun w w' : Word => w >>> 8 = w' >>> 8) s.q q' →
    lineTrace n { s with q := q' } = lineTrace n s

/-- R150 for the Concurrent variant: Words go out in order, two ticks each: clock low with the old data, then clock
high with the new. -/
def Obligations.ConcurrentStreamWaveform : Prop :=
  ∀ (ws rest : List Word) (s : State), s.mode = 0b01#2 → s.t = 0#3 → s.q = ws ++ rest →
    busTrace (2 * ws.length) s = parcWave s.parD ws ∧
    ∃ s', ticks (2 * ws.length) s = .next s' ∧ s'.mode = 0b01#2 ∧ s'.t = 0#3 ∧ s'.q = rest

/-- R150 for the Data-settled variant: four ticks a Word: clock low with the old data, clock low with the new, clock
high twice. -/
def Obligations.SettledStreamWaveform : Prop :=
  ∀ (ws rest : List Word) (s : State), s.mode = 0b10#2 → s.t = 0#3 → s.q = ws ++ rest →
    busTrace (4 * ws.length) s = parsWave s.parD ws ∧
    ∃ s', ticks (4 * ws.length) s = .next s' ∧ s'.mode = 0b10#2 ∧ s'.t = 0#3 ∧ s'.q = rest

/-! ## Host duties (70_reset_and_hazards.md) -/

/-- R217: once the Channel is empty in PULSE mode, 143 ticks are enough for the Word in hand: the 143rd tick and every
tick after it, while no Word is pushed, leaves the line low. So a host that waits 143 + LATCH_TICKS ticks after it
sees EMPTY leaves a gap of at least LATCH_TICKS. -/
def Obligations.LatchWaitLeavesTheLineLow : Prop :=
  ∀ (n : Nat) (s : State), InvariantsHold s → s.mode = 0b00#2 → s.q = [] →
    (lineTrace (143 + n) s).drop 142 = List.replicate (n + 1) false ∧
    ∃ s', ticks (143 + n) s = .next s' ∧ s'.t = 0#3 ∧ s'.bitsLeft = 0#5 ∧ s'.q = [] ∧ s'.pulseOut = false

/-- R220: after the drain waits of R220, at least 144, 2 and 4 ticks from an empty Channel, the outputs are at their
idle level; in the PAR modes the last Word, in OSR or already on the data lines, being 0 in its bits 7:0. -/
def Obligations.DrainLeavesTheOutputsIdle : Prop :=
  ∀ (n : Nat) (s : State), InvariantsHold s → s.q = [] →
    (s.mode = 0b00#2 → 144 ≤ n →
      ∃ s', ticks n s = .next s' ∧ s'.t = 0#3 ∧ s'.bitsLeft = 0#5 ∧ s'.pulseOut = false) ∧
    (s.mode = 0b01#2 → 2 ≤ n → (s.t = 0#3 → s.parD = 0#8) → (s.t = 1#3 → s.osr.extractLsb' 0 8 = 0#8) →
      ∃ s', ticks n s = .next s' ∧ s'.t = 0#3 ∧ s'.parD = 0#8 ∧ s'.parClk = false) ∧
    (s.mode = 0b10#2 → 4 ≤ n → (s.t ≠ 1#3 → s.parD = 0#8) → (s.t = 1#3 → s.osr.extractLsb' 0 8 = 0#8) →
      ∃ s', ticks n s = .next s' ∧ s'.t = 0#3 ∧ s'.parD = 0#8 ∧ s'.parClk = false)

/-- R215: a TXDATA write on a full Channel with EN = 0 blocks the host for good: while no reset comes, no number of clock
edges changes anything but the inputs listed, the write is still pending, and no operation after it, an ENABLE among
them, is reached. -/
def Obligations.PushOnAFullDisabledChannelHangs : Prop :=
  ∀ (k : Nat) (s : State) (data : Word) (l : List Input), Live s → s.en = false → s.q.length = s.depth →
    s.inputs = .access 0x148#9 data :: l → .reset ∉ l → k ≤ l.count .sysclk →
    ∃ l', Host.Core.run core k s = .next { s with inputs := .access 0x148#9 data :: l' } ∧
      l'.filter (· ≠ .sysclk) = l.filter (· ≠ .sysclk) ∧ l'.count .sysclk + k = l.count .sysclk

/-- R105: with EN = 1 a TXDATA write held on a full Channel is released by the next Dequeue: within the clock edges of
144 ticks in PULSE, 2 in PAR_CONCURRENT and 4 in PAR_SETTLED, no reset among them, there is room, and the next step
puts the Word in the Channel, in the room the Dequeue made. -/
def Obligations.HeldPushIsReleasedInBoundedTime : Prop :=
  ∀ (s : State) (data : Word) (rest : List Input), Live s → s.en = true → s.q.length = s.depth →
    let n := (if s.mode = 0b00#2 then 144 else if s.mode = 0b01#2 then 2 else 4) * s.div.toNat
    s.inputs = .access 0x148#9 data :: (List.replicate n .sysclk ++ rest) →
    ∃ k s', k ≤ n ∧ Host.Core.run core (k + 1) s = .next s' ∧ s'.q = s.q.tail ++ [data] ∧
      s'.inputs = List.replicate (n - k) .sysclk ++ rest

/-- R213: the three writes of START m, d (30_encoding.md R91), from EN = 0, leave the block enabled in MODE m with
divisor d and DIVCNT 0; the Channel and CFGERR are as before. -/
def Obligations.StartOperationEnablesTheBlock : Prop :=
  ∀ (s : State) (m : BitVec 2) (d : BitVec 16) (rest : List Input), Live s → s.en = false →
    m ≠ 0b11#2 → d ≠ 0#16 →
    s.inputs = .access 0x140#9 (ctrlData m false) :: .access 0x144#9 (clkdivData d) ::
      .access 0x140#9 (ctrlData m true) :: rest →
    ∃ s', Host.Core.run core 3 s = .next s' ∧ s'.en = true ∧ s'.mode = m ∧ s'.div = d ∧ s'.divcnt = 0#16 ∧
      s'.q = s.q ∧ s'.cfgerr = s.cfgerr ∧ s'.inputs = rest

/-! ## The step -/

/-- A step runs the decoded host operation: with an access next, the step is exec of the operation its code stands
for, in the state with that input taken away, unless the operation is held (00_scope.md R8, 30_encoding.md R80). -/
def Obligations.StepRunsTheHostOperation : Prop :=
  ∀ (s : State) (acc : BitVec 9) (data : Word) (rest : List Input), Live s →
    s.inputs = .access acc data :: rest →
    ¬ (acc = 0x148#9 ∧ s.q.length = s.depth) →
    step s = exec (decodeHostacc acc data) { s with inputs := rest }

/-- A step runs the selected micro-state: with a SYSCLK edge next, the step is the SYSCLK step in the state with that
input taken away, which with EN = 1 and DIVCNT = DIV - 1 is exec of the micro-state {MODE, T} decodes to, DIVCNT
cleared (40_clock_divider.md R101, R102, R103; the list of inputs is log entry 1). -/
def Obligations.StepRunsTheMicroState : Prop :=
  ∀ (s : State) (rest : List Input), Live s → s.inputs = .sysclk :: rest →
    step s = sysclk { s with inputs := rest } ∧
    (s.en = false → step s = .next { s with inputs := rest }) ∧
    (s.en = true → s.divcnt ≠ s.div - 1#16 → step s = .next { s with inputs := rest, divcnt := s.divcnt + 1#16 }) ∧
    (s.en = true → s.divcnt = s.div - 1#16 →
      step s = exec (decodeUstate (s.mode ++ s.t)) { s with inputs := rest, divcnt := 0#16 })

/-- With no input listed the next one is the free value, whatever it is (00_scope.md R8, log entry 2). -/
def Obligations.StepWithNoInputTakesAFreeOne : Prop :=
  ∀ s : State, s.inputs = [] →
    step s = step { s with inputs := [Config.nextInput s.inputCount], inputCount := s.inputCount + 1 }

/-- The word the host places is the instruction the next step runs, whatever DATA it carries: a HOSTACC code with its
DATA as the next operation, in the state as it was; a USTATE code as the next tick, in the state as it was but for the
position, EN and DIVCNT, and with the sequencer and the ports cleared where its MODE is not the one held (log entry
11). -/
def Obligations.PlacedWordRunsNext : Prop :=
  ∀ (s : State), InvariantsHold s →
    (∀ w i, decodeTableWord 16 w = some i → ¬ (w % 65536 = 0x148 ∧ s.q.length = s.depth) →
      step (s.withFetchWord 16 w) = exec i { s with refused := false }) ∧
    (∀ w i, decodeTableWord 8 w = some i →
      step (s.withFetchWord 8 w) =
        (let m := BitVec.ofNat 2 (w / 8)
         let s1 :=
           if m = s.mode then s
           else
             { s with
               mode := m, osr := 0#32, bitsLeft := 0#5, cur := false, pulseOut := false, parD := 0#8, parClk := false }
         exec i { s1 with t := BitVec.ofNat 3 w, en := true, divcnt := 0#16, refused := false }))

/-! ## Reset -/

/-- R40: the reset value of every state element, and the read values of CTRL, CLKDIV and STATUS; the mark REFUSED is 0
at the start of a run and a reset does not change it. -/
def Obligations.ResetValues : Prop :=
  State.reset.en = false ∧ State.reset.mode = 0b00#2 ∧ State.reset.div = 1#16 ∧ State.reset.divcnt = 0#16 ∧
  State.reset.t = 0#3 ∧ State.reset.osr = 0x00000000#32 ∧ State.reset.bitsLeft = 0#5 ∧ State.reset.cur = false ∧
  State.reset.cfgerr = false ∧ State.reset.q = [] ∧ State.reset.pulseOut = false ∧ State.reset.parD = 0x00#8 ∧
  State.reset.parClk = false ∧ State.reset.refused = false ∧
  exec .rdCtrl State.reset = .next { State.reset with result := some 0x00000000#32 } ∧
  exec .rdClkdiv State.reset = .next { State.reset with result := some 0x00000001#32 } ∧
  exec .rdStatus State.reset = .next { State.reset with result := some 0x00000200#32 } ∧
  (∀ s : State, (applyReset s).refused = s.refused)

/-- R210: a reset sets every state element to its reset value but for REFUSED; the Channel and the Word in OSR are
lost and the ports go to 0. It comes at any step, and while a TXDATA write holds too. The parameter depth, the last
read result and the inputs to come are not the block's (log entry 9; a held write: log entry 3). -/
def Obligations.ResetEventClearsTheBlock : Prop :=
  ∀ (s : State) (rest : List Input), s.refused = false →
    let cleared : List Input → State := fun inputs =>
      { en := false, mode := 0b00#2, div := 1#16, divcnt := 0#16, t := 0#3, osr := 0#32, bitsLeft := 0#5,
        cur := false, cfgerr := false, q := [], pulseOut := false, parD := 0#8, parClk := false,
        refused := s.refused, depth := s.depth, result := s.result, inputs := inputs, inputCount := s.inputCount }
    (s.inputs = .reset :: rest → step s = .next (cleared rest)) ∧
    (∀ (data : Word) (ops : List Input), s.q.length = s.depth → (∀ a ∈ ops, ∃ acc d, a = .access acc d) →
      s.inputs = .access 0x148#9 data :: (ops ++ .reset :: rest) →
      step s = .next (cleared (.access 0x148#9 data :: (ops ++ rest))))

/-! ## Rules of the whole machine -/

/-- R41: the state after reset meets the invariants, for every legal depth of the Channel and every list of inputs. -/
def Obligations.ResetMeetsTheInvariants : Prop :=
  ∀ (depth : Nat) (inputs : List Input), 1 ≤ depth → depth ≤ 255 →
    InvariantsHold { State.reset with depth := depth, inputs := inputs }

/-- R41: every step from a state within the invariants that gives a next state gives one within the invariants. -/
def Obligations.StepKeepsTheInvariants : Prop :=
  ∀ s s' : State, InvariantsHold s → step s = .next s' → InvariantsHold s'

/-- R41: every state a run reaches from the state after reset meets the invariants, for every legal depth of the
Channel and every list of inputs. -/
def Obligations.ReachableStatesMeetTheInvariants : Prop :=
  ∀ (k depth : Nat) (inputs : List Input) (s' : State), 1 ≤ depth → depth ≤ 255 →
    Host.Core.run core k { State.reset with depth := depth, inputs := inputs } = .next s' → InvariantsHold s'

/-- R195: from a state within the invariants no step faults; a run that is not marked refused always goes on. -/
def Obligations.LiveStatesAlwaysStep : Prop :=
  ∀ s : State, Live s → ∃ s', step s = .next s'

/-- R195, R41: a step from a state that breaks an invariant is a fault, unless it is a reset (log entry 8). It is
fault(invariant) where a clause other than the position clauses (1) and (5) is broken, and where a position clause is
broken and the step is no tick: a host operation, or a clock edge that is no tick. Where only a position clause is
broken and the edge is a tick, it is fault(unreachable_ustate). While a TXDATA write holds, the step is the next clock
edge's or reset's (log entry 3). -/
def Obligations.BrokenInvariantFaults : Prop :=
  ∀ s : State, s.refused = false → (nextEnabled s).1 ≠ .reset →
    let hostSteps : Prop := ∃ acc data, (nextEnabled s).1 = .access acc data
    (dataOk s = false → step s = .fault .invariant) ∧
    (positionOk s = false → hostSteps ∨ tickDue s = false → step s = .fault .invariant) ∧
    (dataOk s = true → positionOk s = false → ¬ hostSteps → tickDue s = true →
      step s = .fault .unreachableUstate)

/-- R35, R36, R71: a step changes the Channel in no other way than these: a TXDATA write appends its Word at the tail
of a Channel that is not full; a tick, with EN = 1 and T = 0, takes the head into the sequencer; a reset empties it. -/
def Obligations.ChannelChangesOnlyAtItsEnds : Prop :=
  ∀ s s' : State, step s = .next s' →
    s'.q = s.q ∨
    (∃ data, (nextEnabled s).1 = .access 0x148#9 data ∧ s.q.length < s.depth ∧ s'.q = s.q ++ [data]) ∨
    (∃ w, s.en = true ∧ s.t = 0#3 ∧ s'.t = 1#3 ∧ s.q = w :: s'.q ∧
      ((s.mode = 0b00#2 ∧ s'.osr = w <<< 1 ∧ s'.cur = w.getLsbD 31) ∨ (s.mode ≠ 0b00#2 ∧ s'.osr = w))) ∨
    ((nextEnabled s).1 = .reset ∧ s'.q = [])

/-- R33, R34: a tick in PULSE does not write PAR_D or PAR_CLK, a tick in a PAR mode does not write PULSE_OUT, and no
tick writes CTRL, CLKDIV, CFGERR or REFUSED. -/
def Obligations.TickWritesOnlyItsOwnPorts : Prop :=
  ∀ s s' : State, tick s = .next s' →
    (s.mode = 0b00#2 → s'.parD = s.parD ∧ s'.parClk = s.parClk) ∧
    (s.mode ≠ 0b00#2 → s'.pulseOut = s.pulseOut ∧ s'.cur = s.cur ∧ s'.bitsLeft = s.bitsLeft) ∧
    s'.en = s.en ∧ s'.mode = s.mode ∧ s'.div = s.div ∧ s'.divcnt = s.divcnt ∧ s'.cfgerr = s.cfgerr ∧
    s'.refused = s.refused ∧ s'.result = s.result ∧ s'.depth = s.depth ∧ s'.inputs = s.inputs

/-- R31: CFGERR goes to 1 only by the four cases of R31, and to 0 only by a STATUS write with bit 16 set or a reset;
in each of the four cases it is 1 after the step. -/
def Obligations.ConfigErrorHasOnlyItsFourCauses : Prop :=
  ∀ s s' : State, step s = .next s' →
    let cause : Prop := ∃ data,
      ((nextEnabled s).1 = .access 0x140#9 data ∧
        (data.extractLsb' 1 2 = 0b11#2 ∨ (s.en = true ∧ data.extractLsb' 1 2 ≠ s.mode))) ∨
      ((nextEnabled s).1 = .access 0x144#9 data ∧ (data.extractLsb' 0 16 = 0#16 ∨ s.en = true))
    (cause → s'.cfgerr = true) ∧
    (s.cfgerr = false → s'.cfgerr = true → cause) ∧
    (s.cfgerr = true → s'.cfgerr = false →
      (nextEnabled s).1 = .reset ∨
      ∃ data, (nextEnabled s).1 = .access 0x14C#9 data ∧ data.getLsbD 16 = true)

/-- R214: while EN = 1 no step but a reset changes MODE or DIV; a CTRL write that asks for another MODE, and any CLKDIV
write, sets CFGERR there. -/
def Obligations.ConfigurationOnlyWhileDisabled : Prop :=
  ∀ s s' : State, step s = .next s' → s.en = true → (nextEnabled s).1 ≠ .reset →
    s'.mode = s.mode ∧ s'.div = s.div ∧
    ((∃ data, (nextEnabled s).1 = .access 0x144#9 data ∨
        ((nextEnabled s).1 = .access 0x140#9 data ∧ data.extractLsb' 1 2 ≠ s.mode)) →
      s'.cfgerr = true)

/-- R70: a host operation reaches the sequencer's own state and the ports only through a MODE change, which only a CTRL
write with EN = 0 makes. -/
def Obligations.HostReachesTheSequencerOnlyByAModeChange : Prop :=
  ∀ (acc : BitVec 9) (data : Word) (s s' : State), exec (decodeHostacc acc data) s = .next s' →
    (s'.t = s.t ∧ s'.osr = s.osr ∧ s'.bitsLeft = s.bitsLeft ∧ s'.cur = s.cur ∧ s'.pulseOut = s.pulseOut ∧
      s'.parD = s.parD ∧ s'.parClk = s.parClk ∧ s'.mode = s.mode) ∨
    (acc = 0x140#9 ∧ s.en = false ∧ s'.mode = data.extractLsb' 1 2 ∧ s'.mode ≠ s.mode ∧
      s'.t = 0#3 ∧ s'.osr = 0#32 ∧ s'.bitsLeft = 0#5 ∧ s'.cur = false ∧ s'.pulseOut = false ∧
      s'.parD = 0#8 ∧ s'.parClk = false ∧ s'.q = s.q)

/-- 00_scope.md R4: the parameter CHANNEL_DEPTH is no state of the machine: no step changes it (log entry 5). -/
def Obligations.ChannelDepthNeverChanges : Prop :=
  ∀ s s' : State, step s = .next s' → s'.depth = s.depth

/-! ## Encodings (30_encoding.md) -/

/-- Decode of encode is the identity on every well-formed instruction, at every operand, whatever bytes follow. -/
def Obligations.DecodeOfEncodeIsTheInstruction : Prop :=
  ∀ (i : Instr) (rest : List Byte), i.wf = true →
    decodeBytes (encodeCode i).format (encode i ++ rest) = .ok (i, rest)

/-- Every code of both formats decodes to a well-formed instruction, and encoding that instruction gives the code back
(with the DATA a write carries). -/
def Obligations.EveryCodeIsTheCodeOfItsInstruction : Prop :=
  (∀ (acc : BitVec 9) (data : Word),
    (decodeHostacc acc data).wf = true ∧
    encodeCode (decodeHostacc acc data) = .hostacc acc (if acc.getLsbD 6 then some data else none)) ∧
  (∀ u : BitVec 5, (decodeUstate u).wf = true ∧ encodeCode (decodeUstate u) = .ustate u)

/-- R82: every one of the 512 HOSTACC codes and 32 USTATE codes matches exactly one row of the opcode table: the row of
the instruction it decodes to is in the table and the code matches it, no other row of the table matches, and the
table's 34 rows are distinct. -/
def Obligations.EveryCodeMatchesExactlyOneRow : Prop :=
  opcodeTable.length = 34 ∧ opcodeTable.Nodup ∧
  (∀ (acc : BitVec 9) (data : Word), (decodeHostacc acc data).row ∈ opcodeTable) ∧
  (∀ u : BitVec 5, (decodeUstate u).row ∈ opcodeTable) ∧
  (∀ acc : BitVec 9, ∀ data : Word, ∀ r ∈ opcodeTable,
    r.hits .hostacc acc.toNat = true ↔ r = (decodeHostacc acc data).row) ∧
  (∀ u : BitVec 5, ∀ r ∈ opcodeTable, r.hits .ustate u.toNat = true ↔ r = (decodeUstate u).row)

/-- Words written out from the spec's tables decode to the instructions they stand for (30_encoding.md R82, R84;
95_test_vectors.md H25, H26). -/
def Obligations.WrittenOutCodesDecode : Prop :=
  decodeHostacc 0b100000000#9 0#32 = .rdCtrl ∧
  decodeHostacc 0b101001000#9 0x003F0000#32 = .wrTxdata 0x003F0000#32 ∧
  decodeHostacc 0b100100000#9 0#32 = .rdReserved20 0x20#6 ∧
  decodeHostacc 0b011001000#9 1#32 = .refusedHalfword (.write 1#32) 0x08#6 ∧
  decodeHostacc 0b100000010#9 0#32 = .refusedOff2 .read 0x02#6 ∧
  decodeUstate 0b00101#5 = .pulseTrail0 ∧
  decodeUstate 0b01001#5 = .parcXfer ∧
  decodeUstate 0b10011#5 = .parsHold ∧
  decodeUstate 0b11010#5 = .mode3Unreachable 2#3

/-- R85, R87: a pulse Word packed from its colours shows them in its fields, its padding 0; sent MSB first, green goes
out first, then red, then blue. -/
def Obligations.PackedWordSendsGreenRedBlue : Prop :=
  ∀ g r b : BitVec 8,
    wordGreen (packWord g r b) = g ∧ wordRed (packWord g r b) = r ∧ wordBlue (packWord g r b) = b ∧
    wordPad (packWord g r b) = 0#8 ∧
    payload (packWord g r b) =
      (List.range 8).map (fun i => g.getLsbD (7 - i)) ++ (List.range 8).map (fun i => r.getLsbD (7 - i)) ++
        (List.range 8).map (fun i => b.getLsbD (7 - i))

/-- R4, R217: LATCH_TICKS is the least number of ticks that lasts 50 microseconds, and 240 at the nominal rate. -/
def Obligations.LatchTicksLastFiftyMicroseconds : Prop :=
  Config.latchTicks 4800000 1 = 240 ∧
  ∀ (f d : ℕ+) (n : Nat), Config.latchTicks f d ≤ n ↔ 50 * f.val ≤ n * (1000000 * d.val)
end

