-- ==== Sys2Proof/Laws/Decode.lean ====
section
/-! SUPPORT. The fields of the two formats, and the small lemmas of the decoder and the encoder. -/

namespace Sys2Proof

/-- A `HOSTACC` is made of its three fields (30_encoding.md R81). -/
theorem hostaccOf_fields (acc : BitVec 9) : hostaccOf (hostaccSize acc) (hostaccW acc) (hostaccOff acc) = acc := by
  apply BitVec.eq_of_getLsbD_eq
  intro i hi
  simp only [hostaccOf, hostaccSize, hostaccW, hostaccOff, BitVec.getLsbD_append, BitVec.getLsbD_extractLsb',
    BitVec.getLsbD_ofBool]
  interval_cases i <;> simp

@[simp] theorem hostaccSize_hostaccOf (size : BitVec 2) (w : Bool) (off : BitVec 6) :
    hostaccSize (hostaccOf size w off) = size := by
  revert off w size; decide

@[simp] theorem hostaccW_hostaccOf (size : BitVec 2) (w : Bool) (off : BitVec 6) :
    hostaccW (hostaccOf size w off) = w := by
  revert off w size; decide

@[simp] theorem hostaccOff_hostaccOf (size : BitVec 2) (w : Bool) (off : BitVec 6) :
    hostaccOff (hostaccOf size w off) = off := by
  revert off w size; decide

/-- A `USTATE` is made of its two fields (30_encoding.md R83). -/
theorem ustateOf_fields (u : BitVec 5) : ustateOf (ustateMode u) (ustateT u) = u := by
  revert u; decide

@[simp] theorem ustateMode_ustateOf (m : BitVec 2) (t : BitVec 3) : ustateMode (ustateOf m t) = m := by
  revert m t; decide

@[simp] theorem ustateT_ustateOf (m : BitVec 2) (t : BitVec 3) : ustateT (ustateOf m t) = t := by
  revert m t; decide

/-- The DATA operand is made of its four bytes (log entry 11). -/
theorem dataOfBytes_bytesOfData (d : Word) :
    dataOfBytes (d.extractLsb' 0 8) (d.extractLsb' 8 8) (d.extractLsb' 16 8) (d.extractLsb' 24 8) = d := by
  apply BitVec.eq_of_getLsbD_eq
  intro i hi
  simp only [dataOfBytes, BitVec.getLsbD_append, BitVec.getLsbD_extractLsb']
  interval_cases i <;> simp

/-- Only the code 0x148 is a TXDATA write (30_encoding.md R82). -/
theorem code_of_wrTxdata (acc : BitVec 9) (data d : Word) (h : decodeHostacc acc data = .wrTxdata d) :
    acc = 0x148#9 := by
  revert h
  rw [← hostaccOf_fields acc]
  generalize hostaccSize acc = size
  generalize hostaccW acc = w
  generalize hostaccOff acc = off
  simp only [decodeHostacc, hostaccSize_hostaccOf, hostaccOff_hostaccOf, hostaccW_hostaccOf]
  have hsz : ∀ z : BitVec 2, z ≠ 0b00#2 → z ≠ 0b01#2 → z ≠ 0b11#2 → z = 0b10#2 := by decide
  split
  · exact nofun
  split
  · exact nofun
  split
  · exact nofun
  split
  · exact nofun
  split
  · exact nofun
  rename_i h0 h1 h3 _ _
  cases w <;> simp only [Bool.false_eq_true, if_false, if_true]
  · unfold decodeRead
    repeat' split
    all_goals exact nofun
  · rw [hsz size h0 h1 h3]
    unfold decodeWrite
    split
    · exact nofun
    split
    · exact nofun
    split
    · rename_i h8
      intro _
      rw [h8]
      rfl
    split
    · exact nofun
    split <;> exact nofun

end Sys2Proof
end

