-- ==== Sys2Proof/Laws/State.lean ====
section
/-! SUPPORT. One lemma per field per write of a field, true by rfl. -/

namespace Sys2Proof.Machine

/-! ### `setEn` -/

@[simp] theorem State.setEn_en (s : State) (v : Bool) : (s.setEn v).en = v := rfl
@[simp] theorem State.setEn_mode (s : State) (v : Bool) : (s.setEn v).mode = s.mode := rfl
@[simp] theorem State.setEn_div (s : State) (v : Bool) : (s.setEn v).div = s.div := rfl
@[simp] theorem State.setEn_divcnt (s : State) (v : Bool) : (s.setEn v).divcnt = s.divcnt := rfl
@[simp] theorem State.setEn_t (s : State) (v : Bool) : (s.setEn v).t = s.t := rfl
@[simp] theorem State.setEn_osr (s : State) (v : Bool) : (s.setEn v).osr = s.osr := rfl
@[simp] theorem State.setEn_bitsLeft (s : State) (v : Bool) : (s.setEn v).bitsLeft = s.bitsLeft := rfl
@[simp] theorem State.setEn_cur (s : State) (v : Bool) : (s.setEn v).cur = s.cur := rfl
@[simp] theorem State.setEn_cfgerr (s : State) (v : Bool) : (s.setEn v).cfgerr = s.cfgerr := rfl
@[simp] theorem State.setEn_q (s : State) (v : Bool) : (s.setEn v).q = s.q := rfl
@[simp] theorem State.setEn_pulseOut (s : State) (v : Bool) : (s.setEn v).pulseOut = s.pulseOut := rfl
@[simp] theorem State.setEn_parD (s : State) (v : Bool) : (s.setEn v).parD = s.parD := rfl
@[simp] theorem State.setEn_parClk (s : State) (v : Bool) : (s.setEn v).parClk = s.parClk := rfl
@[simp] theorem State.setEn_refused (s : State) (v : Bool) : (s.setEn v).refused = s.refused := rfl
@[simp] theorem State.setEn_result (s : State) (v : Bool) : (s.setEn v).result = s.result := rfl
@[simp] theorem State.setEn_inputs (s : State) (v : Bool) : (s.setEn v).inputs = s.inputs := rfl
@[simp] theorem State.setEn_inputCount (s : State) (v : Bool) : (s.setEn v).inputCount = s.inputCount := rfl
@[simp] theorem State.setEn_depth (s : State) (v : Bool) : (s.setEn v).depth = s.depth := rfl

/-! ### `setMode` -/

@[simp] theorem State.setMode_en (s : State) (v : BitVec 2) : (s.setMode v).en = s.en := rfl
@[simp] theorem State.setMode_mode (s : State) (v : BitVec 2) : (s.setMode v).mode = v := rfl
@[simp] theorem State.setMode_div (s : State) (v : BitVec 2) : (s.setMode v).div = s.div := rfl
@[simp] theorem State.setMode_divcnt (s : State) (v : BitVec 2) : (s.setMode v).divcnt = s.divcnt := rfl
@[simp] theorem State.setMode_t (s : State) (v : BitVec 2) : (s.setMode v).t = s.t := rfl
@[simp] theorem State.setMode_osr (s : State) (v : BitVec 2) : (s.setMode v).osr = s.osr := rfl
@[simp] theorem State.setMode_bitsLeft (s : State) (v : BitVec 2) : (s.setMode v).bitsLeft = s.bitsLeft := rfl
@[simp] theorem State.setMode_cur (s : State) (v : BitVec 2) : (s.setMode v).cur = s.cur := rfl
@[simp] theorem State.setMode_cfgerr (s : State) (v : BitVec 2) : (s.setMode v).cfgerr = s.cfgerr := rfl
@[simp] theorem State.setMode_q (s : State) (v : BitVec 2) : (s.setMode v).q = s.q := rfl
@[simp] theorem State.setMode_pulseOut (s : State) (v : BitVec 2) : (s.setMode v).pulseOut = s.pulseOut := rfl
@[simp] theorem State.setMode_parD (s : State) (v : BitVec 2) : (s.setMode v).parD = s.parD := rfl
@[simp] theorem State.setMode_parClk (s : State) (v : BitVec 2) : (s.setMode v).parClk = s.parClk := rfl
@[simp] theorem State.setMode_refused (s : State) (v : BitVec 2) : (s.setMode v).refused = s.refused := rfl
@[simp] theorem State.setMode_result (s : State) (v : BitVec 2) : (s.setMode v).result = s.result := rfl
@[simp] theorem State.setMode_inputs (s : State) (v : BitVec 2) : (s.setMode v).inputs = s.inputs := rfl
@[simp] theorem State.setMode_inputCount (s : State) (v : BitVec 2) : (s.setMode v).inputCount = s.inputCount := rfl
@[simp] theorem State.setMode_depth (s : State) (v : BitVec 2) : (s.setMode v).depth = s.depth := rfl

/-! ### `setDiv` -/

@[simp] theorem State.setDiv_en (s : State) (v : BitVec 16) : (s.setDiv v).en = s.en := rfl
@[simp] theorem State.setDiv_mode (s : State) (v : BitVec 16) : (s.setDiv v).mode = s.mode := rfl
@[simp] theorem State.setDiv_div (s : State) (v : BitVec 16) : (s.setDiv v).div = v := rfl
@[simp] theorem State.setDiv_divcnt (s : State) (v : BitVec 16) : (s.setDiv v).divcnt = s.divcnt := rfl
@[simp] theorem State.setDiv_t (s : State) (v : BitVec 16) : (s.setDiv v).t = s.t := rfl
@[simp] theorem State.setDiv_osr (s : State) (v : BitVec 16) : (s.setDiv v).osr = s.osr := rfl
@[simp] theorem State.setDiv_bitsLeft (s : State) (v : BitVec 16) : (s.setDiv v).bitsLeft = s.bitsLeft := rfl
@[simp] theorem State.setDiv_cur (s : State) (v : BitVec 16) : (s.setDiv v).cur = s.cur := rfl
@[simp] theorem State.setDiv_cfgerr (s : State) (v : BitVec 16) : (s.setDiv v).cfgerr = s.cfgerr := rfl
@[simp] theorem State.setDiv_q (s : State) (v : BitVec 16) : (s.setDiv v).q = s.q := rfl
@[simp] theorem State.setDiv_pulseOut (s : State) (v : BitVec 16) : (s.setDiv v).pulseOut = s.pulseOut := rfl
@[simp] theorem State.setDiv_parD (s : State) (v : BitVec 16) : (s.setDiv v).parD = s.parD := rfl
@[simp] theorem State.setDiv_parClk (s : State) (v : BitVec 16) : (s.setDiv v).parClk = s.parClk := rfl
@[simp] theorem State.setDiv_refused (s : State) (v : BitVec 16) : (s.setDiv v).refused = s.refused := rfl
@[simp] theorem State.setDiv_result (s : State) (v : BitVec 16) : (s.setDiv v).result = s.result := rfl
@[simp] theorem State.setDiv_inputs (s : State) (v : BitVec 16) : (s.setDiv v).inputs = s.inputs := rfl
@[simp] theorem State.setDiv_inputCount (s : State) (v : BitVec 16) : (s.setDiv v).inputCount = s.inputCount := rfl
@[simp] theorem State.setDiv_depth (s : State) (v : BitVec 16) : (s.setDiv v).depth = s.depth := rfl

/-! ### `setDivcnt` -/

@[simp] theorem State.setDivcnt_en (s : State) (v : BitVec 16) : (s.setDivcnt v).en = s.en := rfl
@[simp] theorem State.setDivcnt_mode (s : State) (v : BitVec 16) : (s.setDivcnt v).mode = s.mode := rfl
@[simp] theorem State.setDivcnt_div (s : State) (v : BitVec 16) : (s.setDivcnt v).div = s.div := rfl
@[simp] theorem State.setDivcnt_divcnt (s : State) (v : BitVec 16) : (s.setDivcnt v).divcnt = v := rfl
@[simp] theorem State.setDivcnt_t (s : State) (v : BitVec 16) : (s.setDivcnt v).t = s.t := rfl
@[simp] theorem State.setDivcnt_osr (s : State) (v : BitVec 16) : (s.setDivcnt v).osr = s.osr := rfl
@[simp] theorem State.setDivcnt_bitsLeft (s : State) (v : BitVec 16) : (s.setDivcnt v).bitsLeft = s.bitsLeft := rfl
@[simp] theorem State.setDivcnt_cur (s : State) (v : BitVec 16) : (s.setDivcnt v).cur = s.cur := rfl
@[simp] theorem State.setDivcnt_cfgerr (s : State) (v : BitVec 16) : (s.setDivcnt v).cfgerr = s.cfgerr := rfl
@[simp] theorem State.setDivcnt_q (s : State) (v : BitVec 16) : (s.setDivcnt v).q = s.q := rfl
@[simp] theorem State.setDivcnt_pulseOut (s : State) (v : BitVec 16) : (s.setDivcnt v).pulseOut = s.pulseOut := rfl
@[simp] theorem State.setDivcnt_parD (s : State) (v : BitVec 16) : (s.setDivcnt v).parD = s.parD := rfl
@[simp] theorem State.setDivcnt_parClk (s : State) (v : BitVec 16) : (s.setDivcnt v).parClk = s.parClk := rfl
@[simp] theorem State.setDivcnt_refused (s : State) (v : BitVec 16) : (s.setDivcnt v).refused = s.refused := rfl
@[simp] theorem State.setDivcnt_result (s : State) (v : BitVec 16) : (s.setDivcnt v).result = s.result := rfl
@[simp] theorem State.setDivcnt_inputs (s : State) (v : BitVec 16) : (s.setDivcnt v).inputs = s.inputs := rfl
@[simp] theorem State.setDivcnt_inputCount (s : State) (v : BitVec 16) : (s.setDivcnt v).inputCount = s.inputCount := rfl
@[simp] theorem State.setDivcnt_depth (s : State) (v : BitVec 16) : (s.setDivcnt v).depth = s.depth := rfl

/-! ### `setT` -/

@[simp] theorem State.setT_en (s : State) (v : BitVec 3) : (s.setT v).en = s.en := rfl
@[simp] theorem State.setT_mode (s : State) (v : BitVec 3) : (s.setT v).mode = s.mode := rfl
@[simp] theorem State.setT_div (s : State) (v : BitVec 3) : (s.setT v).div = s.div := rfl
@[simp] theorem State.setT_divcnt (s : State) (v : BitVec 3) : (s.setT v).divcnt = s.divcnt := rfl
@[simp] theorem State.setT_t (s : State) (v : BitVec 3) : (s.setT v).t = v := rfl
@[simp] theorem State.setT_osr (s : State) (v : BitVec 3) : (s.setT v).osr = s.osr := rfl
@[simp] theorem State.setT_bitsLeft (s : State) (v : BitVec 3) : (s.setT v).bitsLeft = s.bitsLeft := rfl
@[simp] theorem State.setT_cur (s : State) (v : BitVec 3) : (s.setT v).cur = s.cur := rfl
@[simp] theorem State.setT_cfgerr (s : State) (v : BitVec 3) : (s.setT v).cfgerr = s.cfgerr := rfl
@[simp] theorem State.setT_q (s : State) (v : BitVec 3) : (s.setT v).q = s.q := rfl
@[simp] theorem State.setT_pulseOut (s : State) (v : BitVec 3) : (s.setT v).pulseOut = s.pulseOut := rfl
@[simp] theorem State.setT_parD (s : State) (v : BitVec 3) : (s.setT v).parD = s.parD := rfl
@[simp] theorem State.setT_parClk (s : State) (v : BitVec 3) : (s.setT v).parClk = s.parClk := rfl
@[simp] theorem State.setT_refused (s : State) (v : BitVec 3) : (s.setT v).refused = s.refused := rfl
@[simp] theorem State.setT_result (s : State) (v : BitVec 3) : (s.setT v).result = s.result := rfl
@[simp] theorem State.setT_inputs (s : State) (v : BitVec 3) : (s.setT v).inputs = s.inputs := rfl
@[simp] theorem State.setT_inputCount (s : State) (v : BitVec 3) : (s.setT v).inputCount = s.inputCount := rfl
@[simp] theorem State.setT_depth (s : State) (v : BitVec 3) : (s.setT v).depth = s.depth := rfl

/-! ### `setOsr` -/

@[simp] theorem State.setOsr_en (s : State) (v : Word) : (s.setOsr v).en = s.en := rfl
@[simp] theorem State.setOsr_mode (s : State) (v : Word) : (s.setOsr v).mode = s.mode := rfl
@[simp] theorem State.setOsr_div (s : State) (v : Word) : (s.setOsr v).div = s.div := rfl
@[simp] theorem State.setOsr_divcnt (s : State) (v : Word) : (s.setOsr v).divcnt = s.divcnt := rfl
@[simp] theorem State.setOsr_t (s : State) (v : Word) : (s.setOsr v).t = s.t := rfl
@[simp] theorem State.setOsr_osr (s : State) (v : Word) : (s.setOsr v).osr = v := rfl
@[simp] theorem State.setOsr_bitsLeft (s : State) (v : Word) : (s.setOsr v).bitsLeft = s.bitsLeft := rfl
@[simp] theorem State.setOsr_cur (s : State) (v : Word) : (s.setOsr v).cur = s.cur := rfl
@[simp] theorem State.setOsr_cfgerr (s : State) (v : Word) : (s.setOsr v).cfgerr = s.cfgerr := rfl
@[simp] theorem State.setOsr_q (s : State) (v : Word) : (s.setOsr v).q = s.q := rfl
@[simp] theorem State.setOsr_pulseOut (s : State) (v : Word) : (s.setOsr v).pulseOut = s.pulseOut := rfl
@[simp] theorem State.setOsr_parD (s : State) (v : Word) : (s.setOsr v).parD = s.parD := rfl
@[simp] theorem State.setOsr_parClk (s : State) (v : Word) : (s.setOsr v).parClk = s.parClk := rfl
@[simp] theorem State.setOsr_refused (s : State) (v : Word) : (s.setOsr v).refused = s.refused := rfl
@[simp] theorem State.setOsr_result (s : State) (v : Word) : (s.setOsr v).result = s.result := rfl
@[simp] theorem State.setOsr_inputs (s : State) (v : Word) : (s.setOsr v).inputs = s.inputs := rfl
@[simp] theorem State.setOsr_inputCount (s : State) (v : Word) : (s.setOsr v).inputCount = s.inputCount := rfl
@[simp] theorem State.setOsr_depth (s : State) (v : Word) : (s.setOsr v).depth = s.depth := rfl

/-! ### `setBitsLeft` -/

@[simp] theorem State.setBitsLeft_en (s : State) (v : BitVec 5) : (s.setBitsLeft v).en = s.en := rfl
@[simp] theorem State.setBitsLeft_mode (s : State) (v : BitVec 5) : (s.setBitsLeft v).mode = s.mode := rfl
@[simp] theorem State.setBitsLeft_div (s : State) (v : BitVec 5) : (s.setBitsLeft v).div = s.div := rfl
@[simp] theorem State.setBitsLeft_divcnt (s : State) (v : BitVec 5) : (s.setBitsLeft v).divcnt = s.divcnt := rfl
@[simp] theorem State.setBitsLeft_t (s : State) (v : BitVec 5) : (s.setBitsLeft v).t = s.t := rfl
@[simp] theorem State.setBitsLeft_osr (s : State) (v : BitVec 5) : (s.setBitsLeft v).osr = s.osr := rfl
@[simp] theorem State.setBitsLeft_bitsLeft (s : State) (v : BitVec 5) : (s.setBitsLeft v).bitsLeft = v := rfl
@[simp] theorem State.setBitsLeft_cur (s : State) (v : BitVec 5) : (s.setBitsLeft v).cur = s.cur := rfl
@[simp] theorem State.setBitsLeft_cfgerr (s : State) (v : BitVec 5) : (s.setBitsLeft v).cfgerr = s.cfgerr := rfl
@[simp] theorem State.setBitsLeft_q (s : State) (v : BitVec 5) : (s.setBitsLeft v).q = s.q := rfl
@[simp] theorem State.setBitsLeft_pulseOut (s : State) (v : BitVec 5) : (s.setBitsLeft v).pulseOut = s.pulseOut := rfl
@[simp] theorem State.setBitsLeft_parD (s : State) (v : BitVec 5) : (s.setBitsLeft v).parD = s.parD := rfl
@[simp] theorem State.setBitsLeft_parClk (s : State) (v : BitVec 5) : (s.setBitsLeft v).parClk = s.parClk := rfl
@[simp] theorem State.setBitsLeft_refused (s : State) (v : BitVec 5) : (s.setBitsLeft v).refused = s.refused := rfl
@[simp] theorem State.setBitsLeft_result (s : State) (v : BitVec 5) : (s.setBitsLeft v).result = s.result := rfl
@[simp] theorem State.setBitsLeft_inputs (s : State) (v : BitVec 5) : (s.setBitsLeft v).inputs = s.inputs := rfl
@[simp] theorem State.setBitsLeft_inputCount (s : State) (v : BitVec 5) : (s.setBitsLeft v).inputCount = s.inputCount := rfl
@[simp] theorem State.setBitsLeft_depth (s : State) (v : BitVec 5) : (s.setBitsLeft v).depth = s.depth := rfl

/-! ### `setCur` -/

@[simp] theorem State.setCur_en (s : State) (v : Bool) : (s.setCur v).en = s.en := rfl
@[simp] theorem State.setCur_mode (s : State) (v : Bool) : (s.setCur v).mode = s.mode := rfl
@[simp] theorem State.setCur_div (s : State) (v : Bool) : (s.setCur v).div = s.div := rfl
@[simp] theorem State.setCur_divcnt (s : State) (v : Bool) : (s.setCur v).divcnt = s.divcnt := rfl
@[simp] theorem State.setCur_t (s : State) (v : Bool) : (s.setCur v).t = s.t := rfl
@[simp] theorem State.setCur_osr (s : State) (v : Bool) : (s.setCur v).osr = s.osr := rfl
@[simp] theorem State.setCur_bitsLeft (s : State) (v : Bool) : (s.setCur v).bitsLeft = s.bitsLeft := rfl
@[simp] theorem State.setCur_cur (s : State) (v : Bool) : (s.setCur v).cur = v := rfl
@[simp] theorem State.setCur_cfgerr (s : State) (v : Bool) : (s.setCur v).cfgerr = s.cfgerr := rfl
@[simp] theorem State.setCur_q (s : State) (v : Bool) : (s.setCur v).q = s.q := rfl
@[simp] theorem State.setCur_pulseOut (s : State) (v : Bool) : (s.setCur v).pulseOut = s.pulseOut := rfl
@[simp] theorem State.setCur_parD (s : State) (v : Bool) : (s.setCur v).parD = s.parD := rfl
@[simp] theorem State.setCur_parClk (s : State) (v : Bool) : (s.setCur v).parClk = s.parClk := rfl
@[simp] theorem State.setCur_refused (s : State) (v : Bool) : (s.setCur v).refused = s.refused := rfl
@[simp] theorem State.setCur_result (s : State) (v : Bool) : (s.setCur v).result = s.result := rfl
@[simp] theorem State.setCur_inputs (s : State) (v : Bool) : (s.setCur v).inputs = s.inputs := rfl
@[simp] theorem State.setCur_inputCount (s : State) (v : Bool) : (s.setCur v).inputCount = s.inputCount := rfl
@[simp] theorem State.setCur_depth (s : State) (v : Bool) : (s.setCur v).depth = s.depth := rfl

/-! ### `setCfgerr` -/

@[simp] theorem State.setCfgerr_en (s : State) (v : Bool) : (s.setCfgerr v).en = s.en := rfl
@[simp] theorem State.setCfgerr_mode (s : State) (v : Bool) : (s.setCfgerr v).mode = s.mode := rfl
@[simp] theorem State.setCfgerr_div (s : State) (v : Bool) : (s.setCfgerr v).div = s.div := rfl
@[simp] theorem State.setCfgerr_divcnt (s : State) (v : Bool) : (s.setCfgerr v).divcnt = s.divcnt := rfl
@[simp] theorem State.setCfgerr_t (s : State) (v : Bool) : (s.setCfgerr v).t = s.t := rfl
@[simp] theorem State.setCfgerr_osr (s : State) (v : Bool) : (s.setCfgerr v).osr = s.osr := rfl
@[simp] theorem State.setCfgerr_bitsLeft (s : State) (v : Bool) : (s.setCfgerr v).bitsLeft = s.bitsLeft := rfl
@[simp] theorem State.setCfgerr_cur (s : State) (v : Bool) : (s.setCfgerr v).cur = s.cur := rfl
@[simp] theorem State.setCfgerr_cfgerr (s : State) (v : Bool) : (s.setCfgerr v).cfgerr = v := rfl
@[simp] theorem State.setCfgerr_q (s : State) (v : Bool) : (s.setCfgerr v).q = s.q := rfl
@[simp] theorem State.setCfgerr_pulseOut (s : State) (v : Bool) : (s.setCfgerr v).pulseOut = s.pulseOut := rfl
@[simp] theorem State.setCfgerr_parD (s : State) (v : Bool) : (s.setCfgerr v).parD = s.parD := rfl
@[simp] theorem State.setCfgerr_parClk (s : State) (v : Bool) : (s.setCfgerr v).parClk = s.parClk := rfl
@[simp] theorem State.setCfgerr_refused (s : State) (v : Bool) : (s.setCfgerr v).refused = s.refused := rfl
@[simp] theorem State.setCfgerr_result (s : State) (v : Bool) : (s.setCfgerr v).result = s.result := rfl
@[simp] theorem State.setCfgerr_inputs (s : State) (v : Bool) : (s.setCfgerr v).inputs = s.inputs := rfl
@[simp] theorem State.setCfgerr_inputCount (s : State) (v : Bool) : (s.setCfgerr v).inputCount = s.inputCount := rfl
@[simp] theorem State.setCfgerr_depth (s : State) (v : Bool) : (s.setCfgerr v).depth = s.depth := rfl

/-! ### `setQ` -/

@[simp] theorem State.setQ_en (s : State) (v : List Word) : (s.setQ v).en = s.en := rfl
@[simp] theorem State.setQ_mode (s : State) (v : List Word) : (s.setQ v).mode = s.mode := rfl
@[simp] theorem State.setQ_div (s : State) (v : List Word) : (s.setQ v).div = s.div := rfl
@[simp] theorem State.setQ_divcnt (s : State) (v : List Word) : (s.setQ v).divcnt = s.divcnt := rfl
@[simp] theorem State.setQ_t (s : State) (v : List Word) : (s.setQ v).t = s.t := rfl
@[simp] theorem State.setQ_osr (s : State) (v : List Word) : (s.setQ v).osr = s.osr := rfl
@[simp] theorem State.setQ_bitsLeft (s : State) (v : List Word) : (s.setQ v).bitsLeft = s.bitsLeft := rfl
@[simp] theorem State.setQ_cur (s : State) (v : List Word) : (s.setQ v).cur = s.cur := rfl
@[simp] theorem State.setQ_cfgerr (s : State) (v : List Word) : (s.setQ v).cfgerr = s.cfgerr := rfl
@[simp] theorem State.setQ_q (s : State) (v : List Word) : (s.setQ v).q = v := rfl
@[simp] theorem State.setQ_pulseOut (s : State) (v : List Word) : (s.setQ v).pulseOut = s.pulseOut := rfl
@[simp] theorem State.setQ_parD (s : State) (v : List Word) : (s.setQ v).parD = s.parD := rfl
@[simp] theorem State.setQ_parClk (s : State) (v : List Word) : (s.setQ v).parClk = s.parClk := rfl
@[simp] theorem State.setQ_refused (s : State) (v : List Word) : (s.setQ v).refused = s.refused := rfl
@[simp] theorem State.setQ_result (s : State) (v : List Word) : (s.setQ v).result = s.result := rfl
@[simp] theorem State.setQ_inputs (s : State) (v : List Word) : (s.setQ v).inputs = s.inputs := rfl
@[simp] theorem State.setQ_inputCount (s : State) (v : List Word) : (s.setQ v).inputCount = s.inputCount := rfl
@[simp] theorem State.setQ_depth (s : State) (v : List Word) : (s.setQ v).depth = s.depth := rfl

/-! ### `setPulseOut` -/

@[simp] theorem State.setPulseOut_en (s : State) (v : Bool) : (s.setPulseOut v).en = s.en := rfl
@[simp] theorem State.setPulseOut_mode (s : State) (v : Bool) : (s.setPulseOut v).mode = s.mode := rfl
@[simp] theorem State.setPulseOut_div (s : State) (v : Bool) : (s.setPulseOut v).div = s.div := rfl
@[simp] theorem State.setPulseOut_divcnt (s : State) (v : Bool) : (s.setPulseOut v).divcnt = s.divcnt := rfl
@[simp] theorem State.setPulseOut_t (s : State) (v : Bool) : (s.setPulseOut v).t = s.t := rfl
@[simp] theorem State.setPulseOut_osr (s : State) (v : Bool) : (s.setPulseOut v).osr = s.osr := rfl
@[simp] theorem State.setPulseOut_bitsLeft (s : State) (v : Bool) : (s.setPulseOut v).bitsLeft = s.bitsLeft := rfl
@[simp] theorem State.setPulseOut_cur (s : State) (v : Bool) : (s.setPulseOut v).cur = s.cur := rfl
@[simp] theorem State.setPulseOut_cfgerr (s : State) (v : Bool) : (s.setPulseOut v).cfgerr = s.cfgerr := rfl
@[simp] theorem State.setPulseOut_q (s : State) (v : Bool) : (s.setPulseOut v).q = s.q := rfl
@[simp] theorem State.setPulseOut_pulseOut (s : State) (v : Bool) : (s.setPulseOut v).pulseOut = v := rfl
@[simp] theorem State.setPulseOut_parD (s : State) (v : Bool) : (s.setPulseOut v).parD = s.parD := rfl
@[simp] theorem State.setPulseOut_parClk (s : State) (v : Bool) : (s.setPulseOut v).parClk = s.parClk := rfl
@[simp] theorem State.setPulseOut_refused (s : State) (v : Bool) : (s.setPulseOut v).refused = s.refused := rfl
@[simp] theorem State.setPulseOut_result (s : State) (v : Bool) : (s.setPulseOut v).result = s.result := rfl
@[simp] theorem State.setPulseOut_inputs (s : State) (v : Bool) : (s.setPulseOut v).inputs = s.inputs := rfl
@[simp] theorem State.setPulseOut_inputCount (s : State) (v : Bool) : (s.setPulseOut v).inputCount = s.inputCount := rfl
@[simp] theorem State.setPulseOut_depth (s : State) (v : Bool) : (s.setPulseOut v).depth = s.depth := rfl

/-! ### `setParD` -/

@[simp] theorem State.setParD_en (s : State) (v : BitVec 8) : (s.setParD v).en = s.en := rfl
@[simp] theorem State.setParD_mode (s : State) (v : BitVec 8) : (s.setParD v).mode = s.mode := rfl
@[simp] theorem State.setParD_div (s : State) (v : BitVec 8) : (s.setParD v).div = s.div := rfl
@[simp] theorem State.setParD_divcnt (s : State) (v : BitVec 8) : (s.setParD v).divcnt = s.divcnt := rfl
@[simp] theorem State.setParD_t (s : State) (v : BitVec 8) : (s.setParD v).t = s.t := rfl
@[simp] theorem State.setParD_osr (s : State) (v : BitVec 8) : (s.setParD v).osr = s.osr := rfl
@[simp] theorem State.setParD_bitsLeft (s : State) (v : BitVec 8) : (s.setParD v).bitsLeft = s.bitsLeft := rfl
@[simp] theorem State.setParD_cur (s : State) (v : BitVec 8) : (s.setParD v).cur = s.cur := rfl
@[simp] theorem State.setParD_cfgerr (s : State) (v : BitVec 8) : (s.setParD v).cfgerr = s.cfgerr := rfl
@[simp] theorem State.setParD_q (s : State) (v : BitVec 8) : (s.setParD v).q = s.q := rfl
@[simp] theorem State.setParD_pulseOut (s : State) (v : BitVec 8) : (s.setParD v).pulseOut = s.pulseOut := rfl
@[simp] theorem State.setParD_parD (s : State) (v : BitVec 8) : (s.setParD v).parD = v := rfl
@[simp] theorem State.setParD_parClk (s : State) (v : BitVec 8) : (s.setParD v).parClk = s.parClk := rfl
@[simp] theorem State.setParD_refused (s : State) (v : BitVec 8) : (s.setParD v).refused = s.refused := rfl
@[simp] theorem State.setParD_result (s : State) (v : BitVec 8) : (s.setParD v).result = s.result := rfl
@[simp] theorem State.setParD_inputs (s : State) (v : BitVec 8) : (s.setParD v).inputs = s.inputs := rfl
@[simp] theorem State.setParD_inputCount (s : State) (v : BitVec 8) : (s.setParD v).inputCount = s.inputCount := rfl
@[simp] theorem State.setParD_depth (s : State) (v : BitVec 8) : (s.setParD v).depth = s.depth := rfl

/-! ### `setParClk` -/

@[simp] theorem State.setParClk_en (s : State) (v : Bool) : (s.setParClk v).en = s.en := rfl
@[simp] theorem State.setParClk_mode (s : State) (v : Bool) : (s.setParClk v).mode = s.mode := rfl
@[simp] theorem State.setParClk_div (s : State) (v : Bool) : (s.setParClk v).div = s.div := rfl
@[simp] theorem State.setParClk_divcnt (s : State) (v : Bool) : (s.setParClk v).divcnt = s.divcnt := rfl
@[simp] theorem State.setParClk_t (s : State) (v : Bool) : (s.setParClk v).t = s.t := rfl
@[simp] theorem State.setParClk_osr (s : State) (v : Bool) : (s.setParClk v).osr = s.osr := rfl
@[simp] theorem State.setParClk_bitsLeft (s : State) (v : Bool) : (s.setParClk v).bitsLeft = s.bitsLeft := rfl
@[simp] theorem State.setParClk_cur (s : State) (v : Bool) : (s.setParClk v).cur = s.cur := rfl
@[simp] theorem State.setParClk_cfgerr (s : State) (v : Bool) : (s.setParClk v).cfgerr = s.cfgerr := rfl
@[simp] theorem State.setParClk_q (s : State) (v : Bool) : (s.setParClk v).q = s.q := rfl
@[simp] theorem State.setParClk_pulseOut (s : State) (v : Bool) : (s.setParClk v).pulseOut = s.pulseOut := rfl
@[simp] theorem State.setParClk_parD (s : State) (v : Bool) : (s.setParClk v).parD = s.parD := rfl
@[simp] theorem State.setParClk_parClk (s : State) (v : Bool) : (s.setParClk v).parClk = v := rfl
@[simp] theorem State.setParClk_refused (s : State) (v : Bool) : (s.setParClk v).refused = s.refused := rfl
@[simp] theorem State.setParClk_result (s : State) (v : Bool) : (s.setParClk v).result = s.result := rfl
@[simp] theorem State.setParClk_inputs (s : State) (v : Bool) : (s.setParClk v).inputs = s.inputs := rfl
@[simp] theorem State.setParClk_inputCount (s : State) (v : Bool) : (s.setParClk v).inputCount = s.inputCount := rfl
@[simp] theorem State.setParClk_depth (s : State) (v : Bool) : (s.setParClk v).depth = s.depth := rfl

/-! ### `setRefused` -/

@[simp] theorem State.setRefused_en (s : State) (v : Bool) : (s.setRefused v).en = s.en := rfl
@[simp] theorem State.setRefused_mode (s : State) (v : Bool) : (s.setRefused v).mode = s.mode := rfl
@[simp] theorem State.setRefused_div (s : State) (v : Bool) : (s.setRefused v).div = s.div := rfl
@[simp] theorem State.setRefused_divcnt (s : State) (v : Bool) : (s.setRefused v).divcnt = s.divcnt := rfl
@[simp] theorem State.setRefused_t (s : State) (v : Bool) : (s.setRefused v).t = s.t := rfl
@[simp] theorem State.setRefused_osr (s : State) (v : Bool) : (s.setRefused v).osr = s.osr := rfl
@[simp] theorem State.setRefused_bitsLeft (s : State) (v : Bool) : (s.setRefused v).bitsLeft = s.bitsLeft := rfl
@[simp] theorem State.setRefused_cur (s : State) (v : Bool) : (s.setRefused v).cur = s.cur := rfl
@[simp] theorem State.setRefused_cfgerr (s : State) (v : Bool) : (s.setRefused v).cfgerr = s.cfgerr := rfl
@[simp] theorem State.setRefused_q (s : State) (v : Bool) : (s.setRefused v).q = s.q := rfl
@[simp] theorem State.setRefused_pulseOut (s : State) (v : Bool) : (s.setRefused v).pulseOut = s.pulseOut := rfl
@[simp] theorem State.setRefused_parD (s : State) (v : Bool) : (s.setRefused v).parD = s.parD := rfl
@[simp] theorem State.setRefused_parClk (s : State) (v : Bool) : (s.setRefused v).parClk = s.parClk := rfl
@[simp] theorem State.setRefused_refused (s : State) (v : Bool) : (s.setRefused v).refused = v := rfl
@[simp] theorem State.setRefused_result (s : State) (v : Bool) : (s.setRefused v).result = s.result := rfl
@[simp] theorem State.setRefused_inputs (s : State) (v : Bool) : (s.setRefused v).inputs = s.inputs := rfl
@[simp] theorem State.setRefused_inputCount (s : State) (v : Bool) : (s.setRefused v).inputCount = s.inputCount := rfl
@[simp] theorem State.setRefused_depth (s : State) (v : Bool) : (s.setRefused v).depth = s.depth := rfl

/-! ### `setResult` -/

@[simp] theorem State.setResult_en (s : State) (v : Option Word) : (s.setResult v).en = s.en := rfl
@[simp] theorem State.setResult_mode (s : State) (v : Option Word) : (s.setResult v).mode = s.mode := rfl
@[simp] theorem State.setResult_div (s : State) (v : Option Word) : (s.setResult v).div = s.div := rfl
@[simp] theorem State.setResult_divcnt (s : State) (v : Option Word) : (s.setResult v).divcnt = s.divcnt := rfl
@[simp] theorem State.setResult_t (s : State) (v : Option Word) : (s.setResult v).t = s.t := rfl
@[simp] theorem State.setResult_osr (s : State) (v : Option Word) : (s.setResult v).osr = s.osr := rfl
@[simp] theorem State.setResult_bitsLeft (s : State) (v : Option Word) : (s.setResult v).bitsLeft = s.bitsLeft := rfl
@[simp] theorem State.setResult_cur (s : State) (v : Option Word) : (s.setResult v).cur = s.cur := rfl
@[simp] theorem State.setResult_cfgerr (s : State) (v : Option Word) : (s.setResult v).cfgerr = s.cfgerr := rfl
@[simp] theorem State.setResult_q (s : State) (v : Option Word) : (s.setResult v).q = s.q := rfl
@[simp] theorem State.setResult_pulseOut (s : State) (v : Option Word) : (s.setResult v).pulseOut = s.pulseOut := rfl
@[simp] theorem State.setResult_parD (s : State) (v : Option Word) : (s.setResult v).parD = s.parD := rfl
@[simp] theorem State.setResult_parClk (s : State) (v : Option Word) : (s.setResult v).parClk = s.parClk := rfl
@[simp] theorem State.setResult_refused (s : State) (v : Option Word) : (s.setResult v).refused = s.refused := rfl
@[simp] theorem State.setResult_result (s : State) (v : Option Word) : (s.setResult v).result = v := rfl
@[simp] theorem State.setResult_inputs (s : State) (v : Option Word) : (s.setResult v).inputs = s.inputs := rfl
@[simp] theorem State.setResult_inputCount (s : State) (v : Option Word) : (s.setResult v).inputCount = s.inputCount := rfl
@[simp] theorem State.setResult_depth (s : State) (v : Option Word) : (s.setResult v).depth = s.depth := rfl

/-! ### `setInputs` -/

@[simp] theorem State.setInputs_en (s : State) (v : List Input) : (s.setInputs v).en = s.en := rfl
@[simp] theorem State.setInputs_mode (s : State) (v : List Input) : (s.setInputs v).mode = s.mode := rfl
@[simp] theorem State.setInputs_div (s : State) (v : List Input) : (s.setInputs v).div = s.div := rfl
@[simp] theorem State.setInputs_divcnt (s : State) (v : List Input) : (s.setInputs v).divcnt = s.divcnt := rfl
@[simp] theorem State.setInputs_t (s : State) (v : List Input) : (s.setInputs v).t = s.t := rfl
@[simp] theorem State.setInputs_osr (s : State) (v : List Input) : (s.setInputs v).osr = s.osr := rfl
@[simp] theorem State.setInputs_bitsLeft (s : State) (v : List Input) : (s.setInputs v).bitsLeft = s.bitsLeft := rfl
@[simp] theorem State.setInputs_cur (s : State) (v : List Input) : (s.setInputs v).cur = s.cur := rfl
@[simp] theorem State.setInputs_cfgerr (s : State) (v : List Input) : (s.setInputs v).cfgerr = s.cfgerr := rfl
@[simp] theorem State.setInputs_q (s : State) (v : List Input) : (s.setInputs v).q = s.q := rfl
@[simp] theorem State.setInputs_pulseOut (s : State) (v : List Input) : (s.setInputs v).pulseOut = s.pulseOut := rfl
@[simp] theorem State.setInputs_parD (s : State) (v : List Input) : (s.setInputs v).parD = s.parD := rfl
@[simp] theorem State.setInputs_parClk (s : State) (v : List Input) : (s.setInputs v).parClk = s.parClk := rfl
@[simp] theorem State.setInputs_refused (s : State) (v : List Input) : (s.setInputs v).refused = s.refused := rfl
@[simp] theorem State.setInputs_result (s : State) (v : List Input) : (s.setInputs v).result = s.result := rfl
@[simp] theorem State.setInputs_inputs (s : State) (v : List Input) : (s.setInputs v).inputs = v := rfl
@[simp] theorem State.setInputs_inputCount (s : State) (v : List Input) : (s.setInputs v).inputCount = s.inputCount := rfl
@[simp] theorem State.setInputs_depth (s : State) (v : List Input) : (s.setInputs v).depth = s.depth := rfl

/-! ### `setInputCount` -/

@[simp] theorem State.setInputCount_en (s : State) (v : Nat) : (s.setInputCount v).en = s.en := rfl
@[simp] theorem State.setInputCount_mode (s : State) (v : Nat) : (s.setInputCount v).mode = s.mode := rfl
@[simp] theorem State.setInputCount_div (s : State) (v : Nat) : (s.setInputCount v).div = s.div := rfl
@[simp] theorem State.setInputCount_divcnt (s : State) (v : Nat) : (s.setInputCount v).divcnt = s.divcnt := rfl
@[simp] theorem State.setInputCount_t (s : State) (v : Nat) : (s.setInputCount v).t = s.t := rfl
@[simp] theorem State.setInputCount_osr (s : State) (v : Nat) : (s.setInputCount v).osr = s.osr := rfl
@[simp] theorem State.setInputCount_bitsLeft (s : State) (v : Nat) : (s.setInputCount v).bitsLeft = s.bitsLeft := rfl
@[simp] theorem State.setInputCount_cur (s : State) (v : Nat) : (s.setInputCount v).cur = s.cur := rfl
@[simp] theorem State.setInputCount_cfgerr (s : State) (v : Nat) : (s.setInputCount v).cfgerr = s.cfgerr := rfl
@[simp] theorem State.setInputCount_q (s : State) (v : Nat) : (s.setInputCount v).q = s.q := rfl
@[simp] theorem State.setInputCount_pulseOut (s : State) (v : Nat) : (s.setInputCount v).pulseOut = s.pulseOut := rfl
@[simp] theorem State.setInputCount_parD (s : State) (v : Nat) : (s.setInputCount v).parD = s.parD := rfl
@[simp] theorem State.setInputCount_parClk (s : State) (v : Nat) : (s.setInputCount v).parClk = s.parClk := rfl
@[simp] theorem State.setInputCount_refused (s : State) (v : Nat) : (s.setInputCount v).refused = s.refused := rfl
@[simp] theorem State.setInputCount_result (s : State) (v : Nat) : (s.setInputCount v).result = s.result := rfl
@[simp] theorem State.setInputCount_inputs (s : State) (v : Nat) : (s.setInputCount v).inputs = s.inputs := rfl
@[simp] theorem State.setInputCount_inputCount (s : State) (v : Nat) : (s.setInputCount v).inputCount = v := rfl
@[simp] theorem State.setInputCount_depth (s : State) (v : Nat) : (s.setInputCount v).depth = s.depth := rfl

end Sys2Proof.Machine
end

