-- ==== Sys2Proof/Laws/Ops.lean ====
section
/-! SUPPORT. What each shared operation can do, said once: the Channel primitives, the MODE change, the reset, the
fetch states, the CTRL write. -/

namespace Sys2Proof.Machine

/-! ## The Channel -/

/-- `Enqueue` with room appends at the tail. -/
theorem enqueue_of_room (w : Word) (s : State) (h : level s < s.depth) : enqueue w s = .next (s.setQ (s.q ++ [w])) :=
  if_pos h

/-- `Enqueue` without room breaks its guarantee. -/
theorem enqueue_without_room (w : Word) (s : State) (h : ¬ level s < s.depth) : enqueue w s = .fault .invariant :=
  if_neg h

/-- `Enqueue`, if it answers, keeps the Channel within its depth. -/
theorem enqueue_keeps_channel (w : Word) (s t : State) (h : enqueue w s = .next t) : level t ≤ t.depth := by
  unfold enqueue at h
  split at h
  · cases h
    simp [level] at *
    omega
  · cases h

/-- `Dequeue` gives the head and leaves the tail. -/
@[simp] theorem withDequeued_cons (s : State) (w : Word) (rest : List Word) (k : Word → State → StepResult)
    (h : s.q = w :: rest) : withDequeued s k = k w (s.setQ rest) := by
  simp [withDequeued, h]

/-- `Dequeue` on an empty Channel breaks its guarantee. -/
@[simp] theorem withDequeued_nil (s : State) (k : Word → State → StepResult) (h : s.q = []) :
    withDequeued s k = .fault .invariant := by
  simp [withDequeued, h]

/-- The tail a `Dequeue` leaves is within the depth if the Channel was. -/
theorem dequeue_keeps_channel (s : State) (w : Word) (rest : List Word) (h : s.q = w :: rest)
    (hd : level s ≤ s.depth) : level (s.setQ rest) ≤ (s.setQ rest).depth := by
  simp [level, h] at *
  omega

/-! ## Shared operations that answer in one way -/

/-- A completed read changes only the result. -/
theorem returnRead_next (v : Word) (s t : State) : returnRead v s = .next t ↔ t = s.setResult (some v) := by
  simp [returnRead, eq_comm]

/-- A refused access changes only the mark. -/
theorem refuseAccess_next (s t : State) : refuseAccess s = .next t ↔ t = s.setRefused true := by
  simp [refuseAccess, eq_comm]

/-- A micro-state after the pulse fetch changes only the line and the bit timer. -/
theorem driveLine_next (v : Bool) (p : BitVec 3) (s t : State) :
    driveLine v p s = .next t ↔ t = (s.setPulseOut v).setT p := by
  simp [driveLine, eq_comm]

/-- A data tick changes only the data lines, the clock and the bit timer. -/
theorem driveData_next (clk : Bool) (p : BitVec 3) (s t : State) :
    driveData clk p s = .next t ↔ t = ((s.setParD (parallelData s.osr)).setParClk clk).setT p := by
  simp [driveData, eq_comm]

/-- A clock-high tick changes only the clock and the bit timer. -/
theorem clockHigh_next (p : BitVec 3) (s t : State) : clockHigh p s = .next t ↔ t = (s.setParClk true).setT p := by
  simp [clockHigh, eq_comm]

/-! ## The MODE change and the reset -/

/-- What a MODE change leaves. -/
theorem changeMode_eq (m : BitVec 2) (s : State) :
    changeMode m s =
      { s with mode := m, t := 0#3, osr := 0#32, bitsLeft := 0#5, cur := false, pulseOut := false, parD := 0#8,
               parClk := false } := rfl

@[simp] theorem changeMode_en (m : BitVec 2) (s : State) : (changeMode m s).en = s.en := rfl
@[simp] theorem changeMode_mode (m : BitVec 2) (s : State) : (changeMode m s).mode = m := rfl
@[simp] theorem changeMode_div (m : BitVec 2) (s : State) : (changeMode m s).div = s.div := rfl
@[simp] theorem changeMode_divcnt (m : BitVec 2) (s : State) : (changeMode m s).divcnt = s.divcnt := rfl
@[simp] theorem changeMode_t (m : BitVec 2) (s : State) : (changeMode m s).t = 0#3 := rfl
@[simp] theorem changeMode_osr (m : BitVec 2) (s : State) : (changeMode m s).osr = 0#32 := rfl
@[simp] theorem changeMode_bitsLeft (m : BitVec 2) (s : State) : (changeMode m s).bitsLeft = 0#5 := rfl
@[simp] theorem changeMode_cur (m : BitVec 2) (s : State) : (changeMode m s).cur = false := rfl
@[simp] theorem changeMode_cfgerr (m : BitVec 2) (s : State) : (changeMode m s).cfgerr = s.cfgerr := rfl
@[simp] theorem changeMode_q (m : BitVec 2) (s : State) : (changeMode m s).q = s.q := rfl
@[simp] theorem changeMode_pulseOut (m : BitVec 2) (s : State) : (changeMode m s).pulseOut = false := rfl
@[simp] theorem changeMode_parD (m : BitVec 2) (s : State) : (changeMode m s).parD = 0#8 := rfl
@[simp] theorem changeMode_parClk (m : BitVec 2) (s : State) : (changeMode m s).parClk = false := rfl
@[simp] theorem changeMode_refused (m : BitVec 2) (s : State) : (changeMode m s).refused = s.refused := rfl
@[simp] theorem changeMode_depth (m : BitVec 2) (s : State) : (changeMode m s).depth = s.depth := rfl
@[simp] theorem changeMode_result (m : BitVec 2) (s : State) : (changeMode m s).result = s.result := rfl
@[simp] theorem changeMode_inputs (m : BitVec 2) (s : State) : (changeMode m s).inputs = s.inputs := rfl
@[simp] theorem changeMode_inputCount (m : BitVec 2) (s : State) : (changeMode m s).inputCount = s.inputCount := rfl

/-- A reset leaves the invariants true, for a legal depth. -/
theorem applyReset_invariants (s : State) (h1 : 1 ≤ s.depth) (h2 : s.depth ≤ Config.channelDepthMax) :
    invariantsOk (applyReset s) = true := by
  simp [invariantsOk, dataOk, dividerOk, channelOk, bitsLeftOk, zeroFillOk, parallelIdleOk, positionOk, applyReset,
    State.reset, level, h1, h2]

/-! ## The CTRL write -/

/-- A CTRL write with `EN` = 1 writes `EN` and may set `CFGERR`. -/
theorem execWrCtrl_enabled (data : Word) (s : State) (h : s.en = true) :
    execWrCtrl data s =
      .next { s with en := ctrlEn data, cfgerr := s.cfgerr || ctrlError data s } := by
  rcases s with ⟨en, _⟩
  simp only at h
  subst h
  simp only [execWrCtrl, if_true, ne_eq, not_true_eq_false, if_false, Bool.not_true, Bool.false_and]
  split <;> simp_all [raiseCfgerr, State.setCfgerr, State.setEn]

/-- A CTRL write with `EN` = 0 that keeps MODE writes `EN`, clears `DIVCNT` if it enables, and may set `CFGERR`. -/
theorem execWrCtrl_same_mode (data : Word) (s : State) (h : s.en = false) (hm : requestedMode data s = s.mode) :
    execWrCtrl data s =
      .next { s with
        en := ctrlEn data
        divcnt := if ctrlEn data then 0#16 else s.divcnt
        cfgerr := s.cfgerr || ctrlError data s } := by
  rcases s with ⟨en, _⟩
  simp only at h
  subst h
  simp only [execWrCtrl, hm, ne_eq, Bool.not_false, Bool.true_and]
  split <;> split <;> simp_all [raiseCfgerr, State.setCfgerr, State.setEn, State.setDivcnt]

/-- A CTRL write with `EN` = 0 that asks for another legal MODE makes the MODE change, writes `EN`, and clears
`DIVCNT` if it enables; it is no configuration error. -/
theorem execWrCtrl_new_mode (data : Word) (s : State) (h : s.en = false) (hm : requestedMode data s ≠ s.mode) :
    execWrCtrl data s =
      .next { changeMode (ctrlMode data) s with
        en := ctrlEn data
        divcnt := if ctrlEn data then 0#16 else s.divcnt } := by
  have h3 : ctrlMode data ≠ 0b11#2 := by
    intro h3
    exact hm (by simp [requestedMode, h3])
  have hr : requestedMode data s = ctrlMode data := by simp [requestedMode, h3]
  have he : ctrlError data s = false := by simp [ctrlError, h3, h]
  rcases s with ⟨en, _⟩
  simp only at h
  subst h
  rw [hr] at hm
  simp only [execWrCtrl, he, hr, Bool.not_false, Bool.true_and]
  cases ctrlEn data <;> simp_all [State.setEn, State.setDivcnt, changeMode_eq]

/-! ## The fetch states -/

/-- What a fetch tick of the pulse encoder can do (41_pulse_encoder.md R121). -/
theorem execPulseFetch_cases (s t : State) (h : execPulseFetch s = .next t) :
    (s.bitsLeft ≠ 0#5 ∧ t = takeBit (s.setPulseOut false)) ∨
    (∃ w rest, s.bitsLeft = 0#5 ∧ s.q = w :: rest ∧
      t = takeBit (loadWord w ((s.setPulseOut false).setQ rest))) ∨
    (s.bitsLeft = 0#5 ∧ s.q = [] ∧ t = s.setPulseOut false) := by
  rcases hq : s.q with _ | ⟨w, rest⟩ <;> by_cases hb : s.bitsLeft = 0#5 <;>
    simp_all [execPulseFetch, level, withDequeued]

/-- What a fetch tick of the parallel encoder can do (42_parallel_encoder.md R141, R144). -/
theorem fetchParallel_cases (s t : State) (h : fetchParallel s = .next t) :
    (∃ w rest, s.q = w :: rest ∧ t = (((s.setParClk false).setQ rest).setOsr w).setT 1#3) ∨
    (s.q = [] ∧ t = s.setParClk false) := by
  rcases hq : s.q with _ | ⟨w, rest⟩ <;> simp_all [fetchParallel, level, withDequeued]

/-! ## The tick -/

/-- A tick in PULSE. -/
theorem tick_pulse (s : State) (h : s.mode = 0b00#2) : tick s = exec (decodePulse s.t) s := by
  simp [tick, ustate, decodeUstate, h]

/-- A tick in PAR_CONCURRENT. -/
theorem tick_parc (s : State) (h : s.mode = 0b01#2) : tick s = exec (decodeParc s.t) s := by
  simp [tick, ustate, decodeUstate, h]

/-- A tick in PAR_SETTLED. -/
theorem tick_pars (s : State) (h : s.mode = 0b10#2) : tick s = exec (decodePars s.t) s := by
  simp [tick, ustate, decodeUstate, h]

/-- A tick in MODE 0b11. -/
theorem tick_mode3 (s : State) (h : s.mode = 0b11#2) : tick s = .fault .unreachableUstate := by
  simp [tick, ustate, decodeUstate, h, exec, execMode3Unreachable]

/-- What a SYSCLK step can do (40_clock_divider.md R101, R102). -/
theorem sysclk_cases (s : State) :
    (s.en = false ∧ sysclk s = .next s) ∨
    (s.en = true ∧ s.divcnt = s.div - 1#16 ∧ sysclk s = tick (s.setDivcnt 0#16)) ∨
    (s.en = true ∧ s.divcnt ≠ s.div - 1#16 ∧ sysclk s = .next (s.setDivcnt (s.divcnt + 1#16))) := by
  by_cases he : s.en <;> by_cases hd : s.divcnt = s.div - 1#16 <;> simp [sysclk, he, hd]

end Sys2Proof.Machine
end

