-- ==== Sys2Proof/Laws/PerInstr.lean ====
section
/-! SUPPORT. One lemma per constructor of Instr: the code the encoder gives a well-formed instruction is a code of its
own row of spec/opcode_table.json (30_encoding.md R82, R84). -/

namespace Sys2Proof.Laws.RowOfCode

/-- The encoder's code of an instruction has the form, the mask and the pattern of the instruction's row. -/
def Statement (i : Instr) : Prop :=
  i.wf = true → i.row.hits (encodeCode i).format (encodeCode i).number = true

theorem rdCtrl : Statement .rdCtrl := fun _ => rfl

theorem wrCtrl (data : Word) : Statement (.wrCtrl data) := fun _ =>
  (by decide : (Instr.wrCtrl 0).row.hits .hostacc (hostaccOf 0b10#2 true 0x00#6).toNat = true)

theorem rdClkdiv : Statement .rdClkdiv := fun _ => rfl

theorem wrClkdiv (data : Word) : Statement (.wrClkdiv data) := fun _ =>
  (by decide : (Instr.wrClkdiv 0).row.hits .hostacc (hostaccOf 0b10#2 true 0x04#6).toNat = true)

theorem rdTxdata : Statement .rdTxdata := fun _ => rfl

theorem wrTxdata (data : Word) : Statement (.wrTxdata data) := fun _ =>
  (by decide : (Instr.wrTxdata 0).row.hits .hostacc (hostaccOf 0b10#2 true 0x08#6).toNat = true)

theorem rdStatus : Statement .rdStatus := fun _ => rfl

theorem wrStatus (data : Word) : Statement (.wrStatus data) := fun _ =>
  (by decide : (Instr.wrStatus 0).row.hits .hostacc (hostaccOf 0b10#2 true 0x0C#6).toNat = true)

theorem rdReserved10 (off : BitVec 6) : Statement (.rdReserved10 off) := by
  unfold Statement; revert off; decide

theorem rdReserved20 (off : BitVec 6) : Statement (.rdReserved20 off) := by
  unfold Statement; revert off; decide

theorem wrReserved10 (off : BitVec 6) (data : Word) : Statement (.wrReserved10 off data) := by
  intro h
  have key : ∀ off : BitVec 6, (Instr.wrReserved10 off 0).wf = true →
      (Instr.wrReserved10 off 0).row.hits .hostacc (hostaccOf 0b10#2 true off).toNat = true := by decide
  exact key off h

theorem wrReserved20 (off : BitVec 6) (data : Word) : Statement (.wrReserved20 off data) := by
  intro h
  have key : ∀ off : BitVec 6, (Instr.wrReserved20 off 0).wf = true →
      (Instr.wrReserved20 off 0).row.hits .hostacc (hostaccOf 0b10#2 true off).toNat = true := by decide
  exact key off h

theorem refusedByte (a : Access) (off : BitVec 6) : Statement (.refusedByte a off) := by
  intro h
  have key : ∀ off : BitVec 6, (Instr.refusedByte .read off).wf = true →
      (Instr.refusedByte .read off).row.hits .hostacc (encodeCode (.refusedByte .read off)).number = true ∧
      (Instr.refusedByte .read off).row.hits .hostacc (encodeCode (.refusedByte (.write 0) off)).number = true := by decide
  cases a
  · exact (key off h).1
  · exact (key off h).2

theorem refusedHalfword (a : Access) (off : BitVec 6) : Statement (.refusedHalfword a off) := by
  intro h
  have key : ∀ off : BitVec 6, (Instr.refusedHalfword .read off).wf = true →
      (Instr.refusedHalfword .read off).row.hits .hostacc (encodeCode (.refusedHalfword .read off)).number = true ∧
      (Instr.refusedHalfword .read off).row.hits .hostacc (encodeCode (.refusedHalfword (.write 0) off)).number = true := by decide
  cases a
  · exact (key off h).1
  · exact (key off h).2

theorem refusedSize3 (a : Access) (off : BitVec 6) : Statement (.refusedSize3 a off) := by
  intro h
  have key : ∀ off : BitVec 6, (Instr.refusedSize3 .read off).wf = true →
      (Instr.refusedSize3 .read off).row.hits .hostacc (encodeCode (.refusedSize3 .read off)).number = true ∧
      (Instr.refusedSize3 .read off).row.hits .hostacc (encodeCode (.refusedSize3 (.write 0) off)).number = true := by decide
  cases a
  · exact (key off h).1
  · exact (key off h).2

theorem refusedOdd (a : Access) (off : BitVec 6) : Statement (.refusedOdd a off) := by
  intro h
  have key : ∀ off : BitVec 6, (Instr.refusedOdd .read off).wf = true →
      (Instr.refusedOdd .read off).row.hits .hostacc (encodeCode (.refusedOdd .read off)).number = true ∧
      (Instr.refusedOdd .read off).row.hits .hostacc (encodeCode (.refusedOdd (.write 0) off)).number = true := by decide
  cases a
  · exact (key off h).1
  · exact (key off h).2

theorem refusedOff2 (a : Access) (off : BitVec 6) : Statement (.refusedOff2 a off) := by
  intro h
  have key : ∀ off : BitVec 6, (Instr.refusedOff2 .read off).wf = true →
      (Instr.refusedOff2 .read off).row.hits .hostacc (encodeCode (.refusedOff2 .read off)).number = true ∧
      (Instr.refusedOff2 .read off).row.hits .hostacc (encodeCode (.refusedOff2 (.write 0) off)).number = true := by decide
  cases a
  · exact (key off h).1
  · exact (key off h).2

theorem pulseFetch : Statement .pulseFetch := fun _ => rfl

theorem pulseLead0 : Statement .pulseLead0 := fun _ => rfl

theorem pulseLead1 : Statement .pulseLead1 := fun _ => rfl

theorem pulseData0 : Statement .pulseData0 := fun _ => rfl

theorem pulseData1 : Statement .pulseData1 := fun _ => rfl

theorem pulseTrail0 : Statement .pulseTrail0 := fun _ => rfl

theorem pulseUnreachable (t : BitVec 3) : Statement (.pulseUnreachable t) := by
  unfold Statement; revert t; decide

theorem parcFetch : Statement .parcFetch := fun _ => rfl

theorem parcXfer : Statement .parcXfer := fun _ => rfl

theorem parcUnreachable23 (t : BitVec 3) : Statement (.parcUnreachable23 t) := by
  unfold Statement; revert t; decide

theorem parcUnreachable47 (t : BitVec 3) : Statement (.parcUnreachable47 t) := by
  unfold Statement; revert t; decide

theorem parsFetch : Statement .parsFetch := fun _ => rfl

theorem parsDupd : Statement .parsDupd := fun _ => rfl

theorem parsClkh : Statement .parsClkh := fun _ => rfl

theorem parsHold : Statement .parsHold := fun _ => rfl

theorem parsUnreachable (t : BitVec 3) : Statement (.parsUnreachable t) := by
  unfold Statement; revert t; decide

theorem mode3Unreachable (t : BitVec 3) : Statement (.mode3Unreachable t) := by
  unfold Statement; revert t; decide

end Sys2Proof.Laws.RowOfCode
end

