-- ==== Sys2Proof/Laws/Step.lean ====
section
/-! SUPPORT. What a host operation, a tick and a step can do, said once: every rule of the whole machine is proved from
these. -/

namespace Sys2Proof.Machine

/-! ## Host operations -/

/-- An access of a wrong size or at a misaligned offset (43_channel_host_ops.md R170). -/
def Unsupported (acc : BitVec 9) : Prop := acc.extractLsb' 7 2 ≠ 0b10#2 ∨ acc.extractLsb' 0 2 ≠ 0b00#2

/-- An access is unsupported by its size or by its two low offset bits. -/
theorem unsupported_hostaccOf (size : BitVec 2) (w : Bool) (off : BitVec 6) :
    Unsupported (hostaccOf size w off) ↔ size ≠ 0b10#2 ∨ off.getLsbD 0 = true ∨ off.getLsbD 1 = true := by
  unfold Unsupported
  revert off w size; decide

/-- An aligned word write at none of the four registers has a code from 0x150 on. -/
theorem reserved_write_code (off : BitVec 6) : off ≠ 0x00#6 → off ≠ 0x04#6 → off ≠ 0x08#6 → off ≠ 0x0C#6 →
    off.getLsbD 0 = false → off.getLsbD 1 = false → 0x150 ≤ (hostaccOf 0b10#2 true off).toNat := by
  revert off; decide

/-- What a host operation can do, by its code (43_channel_host_ops.md R161-R170). -/
theorem exec_host_cases (acc : BitVec 9) (data : Word) (s : State) :
    (acc = 0x140#9 ∧ decodeHostacc acc data = .wrCtrl data) ∨
    (acc = 0x144#9 ∧ decodeHostacc acc data = .wrClkdiv data) ∨
    (acc = 0x148#9 ∧ decodeHostacc acc data = .wrTxdata data) ∨
    (acc = 0x14C#9 ∧ decodeHostacc acc data = .wrStatus data) ∨
    (¬ Unsupported acc ∧ acc.getLsbD 6 = false ∧
      ∃ v, exec (decodeHostacc acc data) s = .next (s.setResult (some v))) ∨
    (¬ Unsupported acc ∧ acc.getLsbD 6 = true ∧ 0x150 ≤ acc.toNat ∧ exec (decodeHostacc acc data) s = .next s) ∨
    (Unsupported acc ∧ exec (decodeHostacc acc data) s = .next (s.setRefused true)) := by
  rw [← hostaccOf_fields acc]
  generalize hostaccSize acc = size
  generalize hostaccW acc = w
  generalize hostaccOff acc = off
  have hu := unsupported_hostaccOf size w off
  have hw6 : (hostaccOf size w off).getLsbD 6 = w := hostaccW_hostaccOf size w off
  have hsz : ∀ z : BitVec 2, z = 0b00#2 ∨ z = 0b01#2 ∨ z = 0b11#2 ∨ z = 0b10#2 := by decide
  rcases hsz size with rfl | rfl | rfl | rfl
  · exact .inr (.inr (.inr (.inr (.inr (.inr ⟨hu.2 (by simp), by simp [decodeHostacc]; rfl⟩)))))
  · exact .inr (.inr (.inr (.inr (.inr (.inr ⟨hu.2 (by simp), by simp [decodeHostacc]; rfl⟩)))))
  · exact .inr (.inr (.inr (.inr (.inr (.inr ⟨hu.2 (by simp), by simp [decodeHostacc]; rfl⟩)))))
  by_cases h0 : off.getLsbD 0 = true
  · exact .inr (.inr (.inr (.inr (.inr (.inr ⟨hu.2 (.inr (.inl h0)), by simp only [decodeHostacc, hostaccSize_hostaccOf, hostaccOff_hostaccOf, h0]; rfl⟩)))))
  by_cases h1 : off.getLsbD 1 = true
  · exact .inr (.inr (.inr (.inr (.inr (.inr ⟨hu.2 (.inr (.inr h1)), by simp only [decodeHostacc, hostaccSize_hostaccOf, hostaccOff_hostaccOf, h0, h1]; rfl⟩)))))
  have hnu : ¬ Unsupported (hostaccOf 0b10#2 w off) := by rw [hu]; simp_all
  have hd : decodeHostacc (hostaccOf 0b10#2 w off) data = if w then decodeWrite off data else decodeRead off := by
    simp only [decodeHostacc, hostaccSize_hostaccOf, hostaccOff_hostaccOf, hostaccW_hostaccOf, h0, h1]
    rfl
  rw [hd]
  cases w with
  | true =>
    simp only [if_true, decodeWrite]
    by_cases e0 : off = 0x00#6
    · exact .inl ⟨by rw [e0]; rfl, by simp [e0]⟩
    by_cases e4 : off = 0x04#6
    · exact .inr (.inl ⟨by rw [e4]; rfl, by simp [e4]⟩)
    by_cases e8 : off = 0x08#6
    · exact .inr (.inr (.inl ⟨by rw [e8]; rfl, by simp [e8]⟩))
    by_cases eC : off = 0x0C#6
    · exact .inr (.inr (.inr (.inl ⟨by rw [eC]; rfl, by simp [eC]⟩)))
    refine .inr (.inr (.inr (.inr (.inr (.inl ⟨hnu, hw6, reserved_write_code off e0 e4 e8 eC (by simpa using h0) (by simpa using h1), ?_⟩)))))
    simp only [e0, e4, e8, eC, if_false]
    split <;> rfl
  | false =>
    refine .inr (.inr (.inr (.inr (.inl ⟨hnu, hw6, ?_⟩))))
    simp only [decodeRead, Bool.false_eq_true, if_false]
    repeat' split
    all_goals exact ⟨_, rfl⟩

/-- Only a TXDATA write on a full Channel is held. -/
theorem hostHeld_eq_true (acc : BitVec 9) (data : Word) (s : State) :
    hostHeld (decodeHostacc acc data) s = true ↔ acc = 0x148#9 ∧ s.q.length = s.depth := by
  constructor
  · intro h
    rcases hd : decodeHostacc acc data <;> rw [hd] at h <;> simp only [hostHeld, Bool.false_eq_true] at h
    exact ⟨code_of_wrTxdata acc data _ hd, by simpa [txdataHeld, level] using h⟩
  · rintro ⟨rfl, h⟩
    have : decodeHostacc 0x148#9 data = .wrTxdata data := rfl
    simp [this, hostHeld, txdataHeld, level, h]

/-! ## Ticks -/

/-- What a tick can do: one of the twelve micro-states, by its position (40_clock_divider.md R103). -/
theorem tick_cases (s t : State) (h : tick s = .next t) :
    (s.mode = 0b00#2 ∧
      ((s.t = 0#3 ∧ execPulseFetch s = .next t) ∨
       (s.t = 1#3 ∧ t = (s.setPulseOut true).setT 2#3) ∨
       (s.t = 2#3 ∧ t = (s.setPulseOut true).setT 3#3) ∨
       (s.t = 3#3 ∧ t = (s.setPulseOut s.cur).setT 4#3) ∨
       (s.t = 4#3 ∧ t = (s.setPulseOut s.cur).setT 5#3) ∨
       (s.t = 5#3 ∧ t = (s.setPulseOut false).setT 0#3))) ∨
    (s.mode = 0b01#2 ∧
      ((s.t = 0#3 ∧ fetchParallel s = .next t) ∨
       (s.t = 1#3 ∧ t = ((s.setParD (parallelData s.osr)).setParClk true).setT 0#3))) ∨
    (s.mode = 0b10#2 ∧
      ((s.t = 0#3 ∧ fetchParallel s = .next t) ∨
       (s.t = 1#3 ∧ t = ((s.setParD (parallelData s.osr)).setParClk false).setT 2#3) ∨
       (s.t = 2#3 ∧ t = (s.setParClk true).setT 3#3) ∨
       (s.t = 3#3 ∧ t = (s.setParClk true).setT 0#3))) := by
  have hm : ∀ m : BitVec 2, m = 0#2 ∨ m = 1#2 ∨ m = 2#2 ∨ m = 3#2 := by decide
  have ht : ∀ t : BitVec 3, t = 0#3 ∨ t = 1#3 ∨ t = 2#3 ∨ t = 3#3 ∨ t = 4#3 ∨ t = 5#3 ∨ t = 6#3 ∨ t = 7#3 := by decide
  rcases hm s.mode with m | m | m | m
  · rw [tick_pulse s m] at h
    rcases ht s.t with e | e | e | e | e | e | e | e <;> rw [e] at h <;>
      simp_all [decodePulse, exec, execPulseLead0, execPulseLead1, execPulseData0, execPulseData1,
        execPulseTrail0, execPulseUnreachable, driveLine]
  · rw [tick_parc s m] at h
    rcases ht s.t with e | e | e | e | e | e | e | e <;> rw [e] at h <;>
      simp_all [decodeParc, exec, execParcFetch, execParcXfer, execParcUnreachable23, execParcUnreachable47, driveData]
  · rw [tick_pars s m] at h
    rcases ht s.t with e | e | e | e | e | e | e | e <;> rw [e] at h <;>
      simp_all [decodePars, exec, execParsFetch, execParsDupd, execParsClkh, execParsHold, execParsUnreachable,
        driveData, clockHigh]
  · rw [tick_mode3 s m] at h
    cases h

/-! ## The step -/

/-- Taking an input changes only the list of inputs and the count of free ones. -/
theorem takeInput_state (s : State) :
    ∃ is n, (takeInput s).2 = (s.setInputs is).setInputCount n ∧
      ((∃ i, s.inputs = i :: is ∧ n = s.inputCount ∧ (takeInput s).1 = i) ∨
       (s.inputs = [] ∧ is = [] ∧ n = s.inputCount + 1 ∧ (takeInput s).1 = Config.nextInput s.inputCount)) := by
  rcases h : s.inputs with _ | ⟨i, is⟩
  · refine ⟨[], s.inputCount + 1, ?_, .inr ⟨rfl, rfl, rfl, ?_⟩⟩
    · rcases s with ⟨⟩; simp_all [takeInput, State.setInputs, State.setInputCount]
    · simp [takeInput, h]
  · refine ⟨is, s.inputCount, ?_, .inl ⟨i, rfl, rfl, ?_⟩⟩
    · simp [takeInput, h, State.setInputs, State.setInputCount]
    · simp [takeInput, h]

/-- The input of another agent is a clock edge or a reset. -/
theorem splitOther_kind (l rest : List Input) (i : Input) (h : splitOther l = some (i, rest)) :
    i = .sysclk ∨ i = .reset := by
  induction l generalizing rest with
  | nil => cases h
  | cons a l ih =>
    rcases a with ⟨acc, data⟩ | _ | _ <;> simp only [splitOther] at h
    · obtain ⟨⟨j, r⟩, hj, he⟩ := Option.map_eq_some_iff.mp h
      cases he
      exact ih r hj
    all_goals cases h; simp

/-- The operations of the HOST before a clock edge or a reset stay where they are. -/
theorem splitOther_append (ops rest : List Input) (i : Input) (ho : ∀ a ∈ ops, ∃ acc data, a = .access acc data)
    (hi : i = .sysclk ∨ i = .reset) : splitOther (ops ++ i :: rest) = some (i, ops ++ rest) := by
  induction ops with
  | nil => rcases hi with rfl | rfl <;> rfl
  | cons a ops ih =>
    obtain ⟨acc, data, rfl⟩ := ho a (by simp)
    simp [splitOther, ih fun b hb => ho b (by simp [hb])]

/-- What comes while the HOST is held is a clock edge or a reset, and only the inputs change. -/
theorem takeOther_state (s : State) :
    ((takeOther s).1 = .sysclk ∨ (takeOther s).1 = .reset) ∧
      ∃ is n, (takeOther s).2 = (s.setInputs is).setInputCount n := by
  unfold takeOther
  split
  · rename_i i rest h
    exact ⟨splitOther_kind _ _ _ h, rest, s.inputCount, rfl⟩
  · refine ⟨?_, s.inputs, _, rfl⟩
    simp only
    split <;> simp

/-- Taking the next enabled input changes only the list of inputs and the count of free ones, and an operation of the
HOST that is taken does not hold. -/
theorem nextEnabled_state (s : State) :
    (∃ is n, (nextEnabled s).2 = (s.setInputs is).setInputCount n) ∧
      (∀ acc data, (nextEnabled s).1 = .access acc data → ¬ (acc = 0x148#9 ∧ s.q.length = s.depth)) := by
  obtain ⟨is, n, hu, -⟩ := takeInput_state s
  unfold nextEnabled
  split <;> rename_i ht <;> rw [ht] at hu <;> simp only at hu <;> subst hu
  · split
    · obtain ⟨hk, js, m, hj⟩ := takeOther_state
        ((((s.setInputs is).setInputCount n)).setInputs (.access _ _ :: ((s.setInputs is).setInputCount n).inputs))
      exact ⟨⟨js, m, hj⟩, fun acc data h => by rcases hk with hk | hk <;> rw [hk] at h <;> cases h⟩
    · rename_i hh
      refine ⟨⟨is, n, rfl⟩, fun acc data h => ?_⟩
      cases h
      rwa [hostHeld_eq_true] at hh
  all_goals exact ⟨⟨is, n, rfl⟩, fun _ _ h => by cases h⟩

/-- An input that does not hold is the next enabled one. -/
theorem nextEnabled_of_not_held (s : State)
    (h : ∀ data, (takeInput s).1 = .access 0x148#9 data → s.q.length ≠ s.depth) : nextEnabled s = takeInput s := by
  unfold nextEnabled
  split <;> rename_i ht
  · split
    · rename_i hh
      rw [hostHeld_eq_true] at hh
      obtain ⟨rfl, hq⟩ := hh
      exact absurd hq (h _ (by rw [ht]))
    · exact ht.symm
  all_goals exact ht.symm

/-- While a push holds, the next enabled input is the first clock edge or reset listed after it; the push stays first
and the operations between stay in their order. -/
theorem nextEnabled_of_held (s : State) (data : Word) (ops rest : List Input) (i : Input)
    (hq : s.q.length = s.depth) (ho : ∀ a ∈ ops, ∃ acc data, a = .access acc data) (hi : i = .sysclk ∨ i = .reset)
    (h : s.inputs = .access 0x148#9 data :: (ops ++ i :: rest)) :
    nextEnabled s = (i, s.setInputs (.access 0x148#9 data :: (ops ++ rest))) := by
  have hh : hostHeld (decodeHostacc 0x148#9 data) s = true := (hostHeld_eq_true _ _ _).mpr ⟨rfl, hq⟩
  have ht : takeInput s = (.access 0x148#9 data, s.setInputs (ops ++ i :: rest)) := by simp [takeInput, h]
  simp only [nextEnabled, ht, hh, if_true, takeOther, State.setInputs]
  have := splitOther_append (.access 0x148#9 data :: ops) rest i (by simpa using ho) hi
  rw [List.cons_append] at this
  rw [this]
  rfl

/-- The invariants do not look at the inputs. -/
@[simp] theorem dataOk_setInputs (s : State) (is : List Input) (n : Nat) :
    dataOk ((s.setInputs is).setInputCount n) = dataOk s := rfl

@[simp] theorem positionOk_setInputs (s : State) (is : List Input) (n : Nat) :
    positionOk ((s.setInputs is).setInputCount n) = positionOk s := rfl

@[simp] theorem invariantsOk_setInputs (s : State) (is : List Input) (n : Nat) :
    invariantsOk ((s.setInputs is).setInputCount n) = invariantsOk s := rfl

/-- What a step can do: a host operation that does not hold, a SYSCLK step, or a reset (00_scope.md R8). `u` is the
state with its inputs brought up to date. -/
theorem step_cases (s s' : State) (h : step s = .next s') :
    s.refused = false ∧ ∃ is n, ∃ u : State, u = (s.setInputs is).setInputCount n ∧
      ((∃ acc data, (nextEnabled s).1 = .access acc data ∧ ¬ (acc = 0x148#9 ∧ s.q.length = s.depth) ∧
          invariantsOk s = true ∧ exec (decodeHostacc acc data) u = .next s') ∨
       ((nextEnabled s).1 = .sysclk ∧
          dataOk s = true ∧ (tickDue s = true ∨ positionOk s = true) ∧ sysclk u = .next s') ∨
       ((nextEnabled s).1 = .reset ∧ s' = applyReset u)) := by
  obtain ⟨⟨is, n, hu⟩, hn⟩ := nextEnabled_state s
  unfold step stepAgents at h
  split at h
  · cases h
  rename_i hr
  refine ⟨by simpa using hr, is, n, _, rfl, ?_⟩
  split at h <;> rename_i ht <;> rw [ht] at hu hn <;> simp only at hu hn <;> subst hu <;> rw [ht]
  · unfold hostTurn at h
    split at h
    · rename_i hg
      exact .inl ⟨_, _, rfl, hn _ _ rfl, hg, h⟩
    · cases h
  · unfold sysclkTurn at h
    split at h
    · rename_i hg
      simp only [Bool.and_eq_true, Bool.or_eq_true] at hg
      exact .inr (.inl ⟨rfl, hg.1, hg.2, h⟩)
    · cases h
  · cases h
    exact .inr (.inr ⟨rfl, rfl⟩)

end Sys2Proof.Machine
end

