-- ==== Sys2Proof/Machine/Assembler.lean ====
section
/-! DEFINITION. The host assembler (30_encoding.md R90): one line of text to one operation, and its encoding. -/

namespace Sys2Proof.Machine

/-- `reg := 'CTRL' | 'CLKDIV' | 'TXDATA' | 'STATUS' | '@' offset` (30_encoding.md R90). -/
inductive AsmReg where
  | ctrl
  | clkdiv
  | txdata
  | status
  | at (off : BitVec 6)
  deriving DecidableEq, Repr

/-- `op := 'RD' reg | 'WR' reg ',' value | pseudo`; a RD line may name its result (30_encoding.md R90). -/
inductive AsmOp where
  | rd (reg : AsmReg) (name : Option (List Char))
  | wr (reg : AsmReg) (value : Word)
  | pseudo (p : Pseudo)
  deriving DecidableEq, Repr

/-- The window offset a register names (20_memory.md R61). -/
def AsmReg.offset : AsmReg → BitVec 6
  | .ctrl => 0x00#6
  | .clkdiv => 0x04#6
  | .txdata => 0x08#6
  | .status => 0x0C#6
  | .at off => off

/-- `RD` and `WR` encode with `SIZE` = 0b10 (30_encoding.md R90); a pseudo-instruction as it expands (R91). -/
def AsmOp.assemble (fSysHz div : ℕ+) : AsmOp → List HostCmd
  | .rd reg _ => [.op (hostaccOf 0b10#2 false reg.offset) 0#32]
  | .wr reg value => [.op (hostaccOf 0b10#2 true reg.offset) value]
  | .pseudo p => p.expand fSysHz div

/-! ## From text -/

/-- What a line is made of. -/
inductive AsmToken where
  | word (cs : List Char)
  | comma
  | lpar
  | rpar
  | atSign
  | arrow
  deriving DecidableEq, Repr

/-- The word gathered so far, if any, before the tokens after it; `acc` holds it backwards. -/
def flushWord (acc : List Char) (rest : List AsmToken) : List AsmToken :=
  if acc.isEmpty then rest else .word acc.reverse :: rest

/-- The tokens of a line; a semicolon starts the comment. -/
def asmTokens (acc : List Char) : List Char → List AsmToken
  | [] => flushWord acc []
  | '-' :: '>' :: cs => flushWord acc (.arrow :: asmTokens [] cs)
  | c :: cs =>
    if c = ';' then flushWord acc []
    else if c = ',' then flushWord acc (.comma :: asmTokens [] cs)
    else if c = '(' then flushWord acc (.lpar :: asmTokens [] cs)
    else if c = ')' then flushWord acc (.rpar :: asmTokens [] cs)
    else if c = '@' then flushWord acc (.atSign :: asmTokens [] cs)
    else if c.isWhitespace then flushWord acc (asmTokens [] cs)
    else asmTokens (c :: acc) cs

/-- The value of one digit, hexadecimal letters included. -/
def digitValue (c : Char) : Nat :=
  if '0' ≤ c ∧ c ≤ '9' then c.toNat - '0'.toNat
  else if 'a' ≤ c ∧ c ≤ 'f' then c.toNat - 'a'.toNat + 10
  else if 'A' ≤ c ∧ c ≤ 'F' then c.toNat - 'A'.toNat + 10
  else 16

/-- The number of some digits in a base, or `none` if one is no digit of it. -/
def digitsValue (base : Nat) : Nat → List Char → Option Nat
  | n, [] => some n
  | n, c :: cs => if digitValue c < base then digitsValue base (n * base + digitValue c) cs else none

/-- A number: decimal, `0x` hexadecimal or `0b` binary (30_encoding.md R90). -/
def asmNumber : List Char → Option Nat
  | '0' :: 'x' :: c :: cs => digitsValue 16 0 (c :: cs)
  | '0' :: 'b' :: c :: cs => digitsValue 2 0 (c :: cs)
  | c :: cs => digitsValue 10 0 (c :: cs)
  | [] => none

/-- A number that fits in `n` bits. -/
def asmField (n : Nat) (cs : List Char) : Option (BitVec n) :=
  match asmNumber cs with
  | some v => if v < 2 ^ n then some (BitVec.ofNat n v) else none
  | none => none

/-- `value := number | 'WORD(' g ',' r ',' b ')'`, which ends the line (30_encoding.md R90). -/
def asmValue : List AsmToken → Option Word
  | [.word w, .lpar, .word g, .comma, .word r, .comma, .word b, .rpar] =>
    if w = "WORD".toList then
      match asmField 8 g, asmField 8 r, asmField 8 b with
      | some g, some r, some b => some (packWord g r b)
      | _, _, _ => none
    else none
  | [.word n] => asmField 32 n
  | _ => none

/-- A register at the head of the tokens, and the tokens after it. -/
def asmReg : List AsmToken → Option (AsmReg × List AsmToken)
  | .atSign :: .word o :: rest => (asmField 6 o).map fun off => (.at off, rest)
  | .word w :: rest =>
    if w = "CTRL".toList then some (.ctrl, rest)
    else if w = "CLKDIV".toList then some (.clkdiv, rest)
    else if w = "TXDATA".toList then some (.txdata, rest)
    else if w = "STATUS".toList then some (.status, rest)
    else none
  | _ => none

/-- A pseudo-instruction with legal operands (30_encoding.md R91). R91 gives the operand of WAITCLK no range: that it is
a number of R90, which fits in 32 bits, is the model's choice (DESIGN CHOICE, log entry 16). -/
def asmPseudo (w : List Char) (args : List AsmToken) : Option AsmOp :=
  let p : Option Pseudo :=
    if w = "PUSH".toList then (asmValue args).map .push
    else
      match args with
      | [] =>
        if w = "CLRERR".toList then some .clrerr
        else if w = "WAIT_CAPACITY".toList then some .waitCapacity
        else if w = "WAIT_EMPTY".toList then some .waitEmpty
        else if w = "LATCH".toList then some .latch
        else none
      | [.word a] =>
        if w = "SETDIV".toList then (asmField 16 a).map .setdiv
        else if w = "SETMODE".toList then (asmField 2 a).map .setmode
        else if w = "ENABLE".toList then (asmField 2 a).map .enable
        else if w = "DISABLE".toList then (asmField 2 a).map .disable
        else if w = "WAITCLK".toList then (asmField 32 a).map fun n => .waitclk n.toNat
        else none
      | [.word a, .comma, .word b] =>
        if w = "START".toList then
          match asmField 2 a, asmField 16 b with
          | some m, some d => some (.start m d)
          | _, _ => none
        else none
      | _ => none
  match p with
  | some p => if p.wf then some (.pseudo p) else none
  | none => none

/-- One line: `[op] [';' comment]` (30_encoding.md R90). `some none` is a line with no operation, `none` no line of
the grammar. -/
def asmLine (cs : List Char) : Option (Option AsmOp) :=
  match asmTokens [] cs with
  | [] => some none
  | .word w :: rest =>
    if w = "RD".toList then
      match asmReg rest with
      | some (r, []) => some (some (.rd r none))
      | some (r, [.arrow, .word name]) => some (some (.rd r (some name)))
      | _ => none
    else if w = "WR".toList then
      match asmReg rest with
      | some (r, .comma :: v) => (asmValue v).map fun d => some (.wr r d)
      | _ => none
    else (asmPseudo w rest).map some
  | _ => none

end Sys2Proof.Machine
end

