-- ==== Sys2Proof/Tests/Slice0.lean ====
section
/-! SUPPORT. Our own tests: ill-formed terms, decoding of words written out from spec/, one step of each instruction
(expected results: 95_test_vectors.md, named V, W, H there, and the examples of the rules), and for every statement
with hypotheses a state that meets them. -/

namespace Sys2Proof.Tests

open Sys2Proof.Machine Sys2Proof.Safety

/-- Whether a step answers a next state with a property. -/
def leaves (r : StepResult) (p : State → Bool) : Bool :=
  match r with
  | .next s => p s
  | .fault _ => false
  | .refused _ => false

/-- Whether a step faults for a reason. -/
def faultsWith (r : StepResult) (f : Fault) : Bool :=
  match r with
  | .next _ => false
  | .fault g => g == f
  | .refused _ => false

/-- The reset state at a position of the sequencer, enabled. -/
def sAt (mode : BitVec 2) (t : BitVec 3) : State := { State.reset with en := true, mode := mode, t := t }

/-! ## WellFormed refuses an ill-formed term of each check -/

theorem test_wf_reserved10_above : (Instr.rdReserved10 0x20#6).wf = false := by decide
theorem test_wf_reserved10_misaligned : (Instr.wrReserved10 0x11#6 0#32).wf = false := by decide
theorem test_wf_reserved20_below : (Instr.rdReserved20 0x1C#6).wf = false := by decide
theorem test_wf_reserved20_misaligned : (Instr.wrReserved20 0x3E#6 0#32).wf = false := by decide
theorem test_wf_odd_offset_even : (Instr.refusedOdd .read 0x02#6).wf = false := by decide
theorem test_wf_off2_offset_odd : (Instr.refusedOff2 .read 0x03#6).wf = false := by decide
theorem test_wf_pulse_unreachable : (Instr.pulseUnreachable 5#3).wf = false := by decide
theorem test_wf_parc_unreachable23 : (Instr.parcUnreachable23 4#3).wf = false := by decide
theorem test_wf_parc_unreachable47 : (Instr.parcUnreachable47 3#3).wf = false := by decide
theorem test_wf_pars_unreachable : (Instr.parsUnreachable 3#3).wf = false := by decide
theorem test_wf_accepts : (Instr.rdReserved10 0x1C#6).wf = true ∧ (Instr.wrReserved20 0x3C#6 1#32).wf = true := by decide
theorem test_pseudo_wf : (Pseudo.setdiv 0#16).wf = false ∧ (Pseudo.enable 3#2).wf = false ∧
    (Pseudo.start 2#2 0#16).wf = false := by decide

/-! ## Decoding: every constructor by a code written out from 30_encoding.md R81-R84 -/

theorem test_decode_reads :
    decodeHostacc 0b100000000#9 0#32 = .rdCtrl ∧ decodeHostacc 0b100000100#9 0#32 = .rdClkdiv ∧
    decodeHostacc 0b100001000#9 0#32 = .rdTxdata ∧ decodeHostacc 0b100001100#9 0#32 = .rdStatus := by decide

theorem test_decode_writes :
    decodeHostacc 0b101000000#9 3#32 = .wrCtrl 3#32 ∧ decodeHostacc 0b101000100#9 26#32 = .wrClkdiv 26#32 ∧
    decodeHostacc 0b101001000#9 0xB2#32 = .wrTxdata 0xB2#32 ∧
    decodeHostacc 0b101001100#9 0x10000#32 = .wrStatus 0x10000#32 := by decide

theorem test_decode_reserved :
    decodeHostacc 0b100010000#9 0#32 = .rdReserved10 0x10#6 ∧ decodeHostacc 0b100111100#9 0#32 = .rdReserved20 0x3C#6 ∧
    decodeHostacc 0b101011100#9 5#32 = .wrReserved10 0x1C#6 5#32 ∧
    decodeHostacc 0b101100000#9 5#32 = .wrReserved20 0x20#6 5#32 := by decide

theorem test_decode_refused :
    decodeHostacc 0b000001100#9 0#32 = .refusedByte .read 0x0C#6 ∧
    decodeHostacc 0b011001000#9 1#32 = .refusedHalfword (.write 1#32) 0x08#6 ∧
    decodeHostacc 0b110000000#9 0#32 = .refusedSize3 .read 0x00#6 ∧
    decodeHostacc 0b101000011#9 9#32 = .refusedOdd (.write 9#32) 0x03#6 ∧
    decodeHostacc 0b100000010#9 0#32 = .refusedOff2 .read 0x02#6 := by decide

theorem test_decode_pulse :
    decodeUstate 0b00000#5 = .pulseFetch ∧ decodeUstate 0b00001#5 = .pulseLead0 ∧ decodeUstate 0b00010#5 = .pulseLead1 ∧
    decodeUstate 0b00011#5 = .pulseData0 ∧ decodeUstate 0b00100#5 = .pulseData1 ∧ decodeUstate 0b00101#5 = .pulseTrail0 ∧
    decodeUstate 0b00110#5 = .pulseUnreachable 6#3 ∧ decodeUstate 0b00111#5 = .pulseUnreachable 7#3 := by decide

theorem test_decode_parallel :
    decodeUstate 0b01000#5 = .parcFetch ∧ decodeUstate 0b01001#5 = .parcXfer ∧
    decodeUstate 0b01011#5 = .parcUnreachable23 3#3 ∧ decodeUstate 0b01100#5 = .parcUnreachable47 4#3 ∧
    decodeUstate 0b10000#5 = .parsFetch ∧ decodeUstate 0b10001#5 = .parsDupd ∧ decodeUstate 0b10010#5 = .parsClkh ∧
    decodeUstate 0b10011#5 = .parsHold ∧ decodeUstate 0b10100#5 = .parsUnreachable 4#3 ∧
    decodeUstate 0b11000#5 = .mode3Unreachable 0#3 := by decide

/-- A write's DATA follows its two bytes; the bytes after it are left. -/
theorem test_decode_bytes :
    decodeBytes .hostacc [0x48#8, 0x01#8, 0x00#8, 0x00#8, 0x3F#8, 0x00#8, 0x55#8] =
      .ok (.wrTxdata 0x003F0000#32, [0x55#8]) := by decide

theorem test_decode_bytes_rejects :
    decodeBytes .hostacc [0x48#8, 0x01#8, 0x00#8] = .error .missingData ∧
    decodeBytes .hostacc [0x48#8] = .error .truncated ∧
    decodeBytes .hostacc [0x48#8, 0x03#8] = .error .highBits ∧
    decodeBytes .ustate [0x20#8] = .error .highBits := by decide

theorem test_table_word :
    decodeTableWord 16 0x14C = some (.wrStatus 0#32) ∧ decodeTableWord 8 0x13 = some .parsHold ∧
    decodeTableWord 16 0x200 = none ∧ decodeTableWord 8 0x20 = none := by decide

theorem test_opcode_table_size : opcodeTable.length = 34 := by decide

/-! ## Host register operations -/

/-- The example of R161. -/
theorem test_rd_ctrl : leaves (exec .rdCtrl { State.reset with en := true, mode := 0b10#2 })
    (fun s => s.result == some 0x00000005#32) = true := by decide

/-- H2. -/
theorem test_rd_clkdiv : leaves (exec .rdClkdiv State.reset) (fun s => s.result == some 0x00000001#32) = true := by decide

/-- The example of R165. -/
theorem test_rd_txdata : leaves (exec .rdTxdata { State.reset with q := [0x12345600#32] })
    (fun s => s.result == some 0#32 && s.q == [0x12345600#32]) = true := by decide

/-- H19. -/
theorem test_rd_status_full : leaves (exec .rdStatus { State.reset with q := List.replicate 8 0#32, cfgerr := true })
    (fun s => s.result == some 0x00010108#32) = true := by decide

/-- H20. -/
theorem test_rd_status_depth1 : leaves (exec .rdStatus { State.reset with q := [7#32], depth := 1 })
    (fun s => s.result == some 0x00000101#32) = true := by decide

/-- H5. -/
theorem test_wr_ctrl_enable : leaves (exec (.wrCtrl 0x3#32) { State.reset with t := 2#3, pulseOut := true, divcnt := 1#16 })
    (fun s => s.mode == 0b01#2 && s.en && s.divcnt == 0#16 && s.t == 0#3 && !s.pulseOut && !s.cfgerr) = true := by decide

/-- H8. -/
theorem test_wr_ctrl_mode_while_enabled : leaves (exec (.wrCtrl 0x0#32) (sAt 0b01#2 0#3))
    (fun s => !s.en && s.mode == 0b01#2 && s.cfgerr) = true := by decide

/-- H13. -/
theorem test_wr_clkdiv_zero : leaves (exec (.wrClkdiv 0x00010000#32) { State.reset with div := 5#16 })
    (fun s => s.div == 5#16 && s.cfgerr) = true := by decide

/-- H14. -/
theorem test_wr_clkdiv_high_bits : leaves (exec (.wrClkdiv 0xFFFF0003#32) { State.reset with divcnt := 2#16, div := 9#16 })
    (fun s => s.div == 3#16 && s.divcnt == 0#16 && !s.cfgerr) = true := by decide

/-- H16. -/
theorem test_wr_txdata_last_room :
    leaves (exec (.wrTxdata 0x003F0000#32) { State.reset with q := List.replicate 7 0#32 })
      (fun s => s.q.length == 8 && s.q.getLast? == some 0x003F0000#32 && statusWord s == 0x00000108#32) = true := by decide

/-- H17: a held write with EN = 1 is still pending after the clock edge, before the read that follows it, and the
fetch tick ran. -/
theorem test_wr_txdata_held :
    leaves (step { sAt 0b00#2 0#3 with
        q := List.replicate 8 4#32, inputs := [.access 0x148#9 1#32, .access 0x10C#9 0#32, .sysclk, .reset] })
      (fun s => s.q.length == 7 && s.inputs == [.access 0x148#9 1#32, .access 0x10C#9 0#32, .reset] && s.t == 1#3) =
      true := by decide

/-- 70_reset_and_hazards.md R210: a reset while a write holds for good empties the Channel. -/
theorem test_reset_while_held :
    leaves (step { State.reset with
        div := 5#16, q := List.replicate 8 4#32, inputs := [.access 0x148#9 1#32, .access 0x140#9 1#32, .reset] })
      (fun s => s == { State.reset with inputs := [.access 0x148#9 1#32, .access 0x140#9 1#32] }) = true := by decide

/-- 70_reset_and_hazards.md R219, 95_test_vectors.md P6: a disable at T = 3 leaves the line high, and at T = 1 the
line is low from the fetch tick. -/
theorem test_disable_freezes_the_line :
    leaves (exec (.wrCtrl 0#32) { sAt 0b00#2 3#3 with pulseOut := true }) (fun s => s.pulseOut && s.t == 3#3) = true ∧
    leaves (tick { sAt 0b00#2 0#3 with bitsLeft := 1#5 }) (fun s => !s.pulseOut && s.t == 1#3) = true := by decide

/-- 95_test_vectors.md P5 lines 11, 13, 14 (the read of line 12 changes no state): the first `WR CTRL, 0x2` with
EN = 1 clears EN and keeps MODE, the same write again, with EN = 0, sets MODE to 01; `c3` = 0x2 (log entry 17). -/
theorem test_repeated_ctrl_write :
    leaves (exec (.wrCtrl 0x2#32) (sAt 0b00#2 0#3)) (fun s => !s.en && s.mode == 0b00#2 && s.cfgerr &&
      leaves (exec (.wrCtrl 0x2#32) s) (fun t => t.mode == 0b01#2 && ctrlWord t == 0x2#32)) = true := by decide

/-- H21. -/
theorem test_wr_status_clears : leaves (exec (.wrStatus 0x00010000#32) { State.reset with cfgerr := true })
    (fun s => !s.cfgerr) = true := by decide

/-- H22. -/
theorem test_wr_status_other_bits : leaves (exec (.wrStatus 0x000001FF#32) { State.reset with cfgerr := true })
    (fun s => s == { State.reset with cfgerr := true }) = true := by decide

/-- H23. -/
theorem test_rd_reserved : leaves (exec (.rdReserved20 0x20#6) State.reset) (fun s => s.result == some 0#32) = true := by decide

/-- The first reserved offset, R169. -/
theorem test_rd_reserved_first : leaves (exec (.rdReserved10 0x10#6) State.reset)
    (fun s => s.result == some 0#32 && !s.cfgerr) = true := by decide

/-- H24. -/
theorem test_wr_reserved : leaves (exec (.wrReserved20 0x3C#6 0xFFFFFFFF#32) State.reset) (fun s => s == State.reset) = true := by decide

theorem test_wr_reserved_first : leaves (exec (.wrReserved10 0x10#6 0xFFFFFFFF#32) State.reset)
    (fun s => s == State.reset) = true := by decide

/-- H25. -/
theorem test_refused_halfword :
    leaves (step { State.reset with inputs := [.access 0x0C8#9 1#32] }) (fun s => s.refused && s.q == []) = true := by decide

/-- H26. -/
theorem test_refused_misaligned :
    leaves (step { State.reset with inputs := [.access 0x102#9 0#32] }) (fun s => s.refused) = true := by decide

/-- R195: the run stays refused, under a reset too (90_conflicts.md C7). -/
theorem test_refused_run : step { State.reset with refused := true, inputs := [.reset] } = .refused .unsupportedAccess := rfl

/-! ## Pulse encoder micro-states -/

/-- V1. -/
theorem test_pulse_fetch_dequeues : leaves (tick { sAt 0b00#2 0#3 with q := [0xA5000000#32], pulseOut := true })
    (fun s => s.t == 1#3 && s.osr == 0x4A000000#32 && s.cur && s.bitsLeft == 23#5 && s.q == [] && !s.pulseOut) = true := by decide

/-- V5: the 24th bit. -/
theorem test_pulse_fetch_last_bit : leaves (tick { sAt 0b00#2 0#3 with bitsLeft := 1#5, osr := 0xFF800000#32 })
    (fun s => s.t == 1#3 && s.cur && s.osr == 0xFF000000#32 && s.bitsLeft == 0#5) = true := by decide

/-- V2. -/
theorem test_pulse_fetch_stalls : leaves (tick (sAt 0b00#2 0#3)) (fun s => s == sAt 0b00#2 0#3) = true := by decide

/-- V7. -/
theorem test_pulse_lead0 : leaves (tick (sAt 0b00#2 1#3)) (fun s => s.t == 2#3 && s.pulseOut) = true := by decide

/-- V8. -/
theorem test_pulse_lead1 : leaves (tick { sAt 0b00#2 2#3 with pulseOut := true })
    (fun s => s.t == 3#3 && s.pulseOut) = true := by decide

/-- V9. -/
theorem test_pulse_data0_zero : leaves (tick { sAt 0b00#2 3#3 with pulseOut := true })
    (fun s => s.t == 4#3 && !s.pulseOut) = true := by decide

/-- V11. -/
theorem test_pulse_data1_one : leaves (tick { sAt 0b00#2 4#3 with cur := true })
    (fun s => s.t == 5#3 && s.pulseOut) = true := by decide

/-- V12. -/
theorem test_pulse_trail0 : leaves (tick { sAt 0b00#2 5#3 with pulseOut := true })
    (fun s => s.t == 0#3 && !s.pulseOut) = true := by decide

/-- V13. -/
theorem test_pulse_unreachable : faultsWith (tick (sAt 0b00#2 6#3)) .unreachableUstate = true := by decide

/-! ## Parallel encoder micro-states -/

/-- W1. -/
theorem test_parc_fetch : leaves (tick { sAt 0b01#2 0#3 with q := [0x000000B2#32], parClk := true })
    (fun s => s.t == 1#3 && s.osr == 0xB2#32 && !s.parClk && s.q == []) = true := by decide

/-- W3. -/
theorem test_parc_fetch_stalls : leaves (tick { sAt 0b01#2 0#3 with parD := 0xB2#8, parClk := true })
    (fun s => s.t == 0#3 && s.parD == 0xB2#8 && !s.parClk) = true := by decide

/-- S1 and W2: lines 0..7 = 0,1,0,0,1,1,0,1. -/
theorem test_parc_xfer : leaves (tick { sAt 0b01#2 1#3 with osr := 0b10110010#32 })
    (fun s => s.t == 0#3 && s.parClk &&
      (List.range 8).map (fun i => s.parD.getLsbD i) == [false, true, false, false, true, true, false, true]) = true := by decide

/-- W4. -/
theorem test_parc_xfer_high_bits : leaves (tick { sAt 0b01#2 1#3 with osr := 0x12345678#32 })
    (fun s => s.parD == 0x78#8) = true := by decide

/-- W5. -/
theorem test_pars_fetch : leaves (tick { sAt 0b10#2 0#3 with q := [0x11#32, 0x22#32], parD := 9#8 })
    (fun s => s.t == 1#3 && s.osr == 0x11#32 && s.q == [0x22#32] && !s.parClk && s.parD == 9#8) = true := by decide

/-- W6. -/
theorem test_pars_dupd : leaves (tick { sAt 0b10#2 1#3 with osr := 0x11#32 })
    (fun s => s.t == 2#3 && s.parD == 0x11#8 && !s.parClk) = true := by decide

/-- W7. -/
theorem test_pars_clkh : leaves (tick { sAt 0b10#2 2#3 with parD := 3#8 })
    (fun s => s.t == 3#3 && s.parClk && s.parD == 3#8) = true := by decide

/-- W8. -/
theorem test_pars_hold : leaves (tick { sAt 0b10#2 3#3 with parClk := true })
    (fun s => s.t == 0#3 && s.parClk) = true := by decide

/-- W10, W11 and MODE 0b11. -/
theorem test_parallel_unreachable :
    faultsWith (tick (sAt 0b01#2 2#3)) .unreachableUstate = true ∧
    faultsWith (tick (sAt 0b01#2 7#3)) .unreachableUstate = true ∧
    faultsWith (tick (sAt 0b10#2 4#3)) .unreachableUstate = true ∧
    faultsWith (tick (sAt 0b11#2 0#3)) .unreachableUstate = true := by decide

/-! ## Clock divider (95_test_vectors.md 2.1) -/

theorem test_divider_counts : leaves (sysclk { sAt 0b00#2 1#3 with div := 65535#16, divcnt := 65533#16 })
    (fun s => s.divcnt == 65534#16 && s.t == 1#3) = true := by decide

theorem test_divider_ticks : leaves (sysclk { sAt 0b00#2 1#3 with div := 65535#16, divcnt := 65534#16 })
    (fun s => s.divcnt == 0#16 && s.t == 2#3) = true := by decide

theorem test_divider_disabled : leaves (sysclk { State.reset with div := 3#16, divcnt := 2#16 })
    (fun s => s == { State.reset with div := 3#16, divcnt := 2#16 }) = true := by decide

/-! ## The step, placed words, reset, parameters -/

/-- A placed USTATE code and a placed HOSTACC code run at the very next step. -/
theorem test_placed_words :
    leaves (step (State.reset.withFetchWord 8 0x09)) (fun s => s.parClk && s.t == 0#3) = true ∧
    leaves (step (State.reset.withFetchWord 16 0x10C)) (fun s => s.result == some 0x00000200#32) = true ∧
    faultsWith (step (State.reset.withFetchWord 8 0x1A)) .unreachableUstate = true := by decide

theorem test_reset_event : leaves (step { sAt 0b10#2 1#3 with q := [1#32], parClk := true, inputs := [.reset] })
    (fun s => s == State.reset) = true := by decide

/-- 95_test_vectors.md S3 and P4: 240 ticks, and 143 + 240 = 383. -/
theorem test_latch_ticks : Config.latchTicks 4800000 1 = 240 ∧ latchWaitClocks 4800000 1 = 383 := by decide

/-- Q5: 12960 ticks, with the latch 13200. -/
theorem test_frame_ticks : Config.frameTicks Config.stripLengthDefault = 12960 ∧ Config.framePeriodTicks 90 4800000 1 = 13200 := by decide

/-- 90_conflicts.md C5: 2 + 2 + 2 ticks are the 6 of a bit period. -/
theorem test_bit_ticks : Config.leadTicks + Config.dataTicks + Config.trailTicks = Config.bitTicks := by decide

/-- P-S4 and 95_test_vectors.md P4: WORD(0, 0, 63). -/
theorem test_pack_word : packWord 0#8 0#8 63#8 = 0x00003F00#32 := by decide

/-- The expansion of START (30_encoding.md R91). -/
theorem test_start_expands : (Pseudo.start 2#2 7#16).expand 1 1 =
    [.op 0x140#9 0x4#32, .op 0x144#9 0x7#32, .op 0x140#9 0x5#32] := by decide

/-- 30_encoding.md R90; 95_test_vectors.md P5 line 15. -/
theorem test_asm_read : asmLine "RD @0x20 -> r ; reserved".toList = some (some (.rd (.at 0x20#6) (some ['r']))) := by decide

/-- 95_test_vectors.md P4 line 3: 0x148, 0x003F0000. -/
theorem test_asm_write : (asmLine "WR TXDATA, WORD(0,63,0)".toList).map (·.map (AsmOp.assemble 1 1)) =
    some (some [.op 0x148#9 0x003F0000#32]) := by decide

/-! ## States that meet the hypotheses of each statement -/

/-- The hypothesis of the statements about the invariants: the reset state, and depth 1 and 255. -/
theorem witness_invariants : InvariantsHold State.reset ∧ Live State.reset ∧
    InvariantsHold { State.reset with depth := 1 } ∧ InvariantsHold { State.reset with depth := 255 } := by decide

theorem witness_rdStatus_depth1 : ∃ s : State, s.depth = 1 ∧ s.q.length ≤ s.depth ∧ s.q.length = 1 :=
  ⟨{ State.reset with depth := 1, q := [0#32] }, by decide⟩

theorem witness_wrCtrl_repeated : ∃ s t, exec (.wrCtrl 0x1#32) s = .next t ∧
    ¬ (s.en = true ∧ ctrlEn 0x1#32 = false ∧ ctrlMode 0x1#32 ≠ 0b11#2 ∧ ctrlMode 0x1#32 ≠ s.mode) :=
  ⟨State.reset, _, rfl, by decide⟩

theorem witness_wrCtrl_repeated_excepted : ∃ s t, exec (.wrCtrl 0x2#32) s = .next t ∧
    (s.en = true ∧ ctrlEn 0x2#32 = false ∧ ctrlMode 0x2#32 ≠ 0b11#2 ∧ ctrlMode 0x2#32 ≠ s.mode) :=
  ⟨sAt 0b00#2 0#3, _, rfl, by decide⟩

theorem witness_wrClkdiv_error : ∃ (s : State) (d : Word), s.en = false ∧ d.extractLsb' 0 16 = 0#16 :=
  ⟨State.reset, 0xFFFF0000#32, by decide⟩

theorem witness_wrClkdiv_applied : ∃ (s : State) (d : Word), s.en = false ∧ d.extractLsb' 0 16 ≠ 0#16 :=
  ⟨State.reset, 0x0000FFFF#32, by decide⟩

theorem witness_wrTxdata_room : ∃ s : State, s.q.length < s.depth ∧ s.q.length + 1 = s.depth :=
  ⟨{ State.reset with q := List.replicate 7 0#32 }, by decide⟩

theorem witness_wrTxdata_over : ∃ s : State, s.depth < s.q.length :=
  ⟨{ State.reset with q := List.replicate 9 0#32 }, by decide⟩

theorem witness_wrTxdata_held : ∃ (s : State) (d : Word) (rest : List Input), Live s ∧ s.en = true ∧
    s.q.length = s.depth ∧ s.inputs = .access 0x148#9 d :: rest :=
  ⟨{ sAt 0b00#2 0#3 with q := List.replicate 8 0#32, inputs := [.access 0x148#9 1#32] }, 1#32, [], by decide⟩

/-- A held write with an operation waiting behind it, before a clock edge and before a reset. -/
theorem witness_held_order : ∃ (a b : State) (ops rest : List Input), Live a ∧ Live b ∧ ops ≠ [] ∧
    a.q.length = a.depth ∧ b.q.length = b.depth ∧ (∀ x ∈ ops, ∃ acc d, x = .access acc d) ∧
    a.inputs = .access 0x148#9 1#32 :: (ops ++ .sysclk :: rest) ∧
    b.inputs = .access 0x148#9 1#32 :: (ops ++ .reset :: rest) :=
  ⟨{ State.reset with q := List.replicate 8 0#32, inputs := [.access 0x148#9 1#32, .access 0x140#9 1#32, .sysclk] },
    { State.reset with q := List.replicate 8 0#32, inputs := [.access 0x148#9 1#32, .access 0x140#9 1#32, .reset] },
    [.access 0x140#9 1#32], [], by decide, by decide, by decide, rfl, rfl,
    fun _ h => ⟨_, _, List.mem_singleton.mp h⟩, rfl, rfl⟩

theorem witness_release : ∃ (s : State) (rest : List Input), Live s ∧ s.en = true ∧ s.q.length = s.depth ∧
    s.mode = 0b01#2 ∧ s.inputs = .access 0x148#9 1#32 :: (List.replicate (2 * s.div.toNat) .sysclk ++ rest) :=
  ⟨{ sAt 0b01#2 0#3 with q := List.replicate 8 0#32, inputs := [.access 0x148#9 1#32, .sysclk, .sysclk] }, [], by decide⟩

theorem witness_wrStatus : ∃ d e : Word, d.getLsbD 16 = true ∧ e.getLsbD 16 = false :=
  ⟨0x00010000#32, 0xFFFEFFFF#32, by decide⟩

theorem witness_reserved_bounds : ∃ a b : BitVec 6, (0x10 ≤ a.toNat ∧ a.toNat % 4 = 0 ∧ a.toNat = 0x10) ∧
    (0x10 ≤ b.toNat ∧ b.toNat % 4 = 0 ∧ b.toNat = 0x3C) := ⟨0x10#6, 0x3C#6, by decide⟩

theorem witness_unsupported : ∃ a b : BitVec 9, (a.extractLsb' 7 2 ≠ 0b10#2 ∧ a.extractLsb' 0 2 = 0b00#2) ∧
    (b.extractLsb' 7 2 = 0b10#2 ∧ b.extractLsb' 0 2 ≠ 0b00#2) := ⟨0x0C8#9, 0x103#9, by decide⟩

theorem witness_refused : ∃ s : State, s.refused = true := ⟨{ State.reset with refused := true }, rfl⟩

/-- A step that marks the run refused, and one that does not. -/
theorem witness_step_refusing : ∃ s s' t t' : State, step s = .next s' ∧ s'.refused = true ∧ step t = .next t' ∧
    t'.refused = false :=
  ⟨{ State.reset with inputs := [.access 0x0C8#9 1#32] }, _, { State.reset with inputs := [.sysclk] }, _,
    rfl, rfl, rfl, rfl⟩

theorem witness_pulseFetch_bit : ∃ s : State, s.bitsLeft ≠ 0#5 := ⟨{ State.reset with bitsLeft := 1#5 }, by decide⟩

theorem witness_pulseFetch_word : ∃ (s : State) (w : Word) (rest : List Word), s.bitsLeft = 0#5 ∧ s.q = w :: rest :=
  ⟨{ State.reset with q := [1#32] }, 1#32, [], rfl, rfl⟩

theorem witness_fetch_stall : ∃ s : State, s.bitsLeft = 0#5 ∧ s.q = [] := ⟨State.reset, rfl, rfl⟩

theorem witness_unreachable_pulse : ∃ s : State, s.mode = 0b00#2 ∧ 6 ≤ s.t.toNat := ⟨sAt 0b00#2 6#3, by decide⟩

theorem witness_unreachable_parallel : ∃ a b c : State, (a.mode = 0b01#2 ∧ 2 ≤ a.t.toNat) ∧
    (b.mode = 0b10#2 ∧ 4 ≤ b.t.toNat) ∧ c.mode = 0b11#2 :=
  ⟨sAt 0b01#2 2#3, sAt 0b10#2 4#3, sAt 0b11#2 0#3, by decide⟩

/-- A state within the invariants from which a step goes on. -/
theorem witness_invariant_step : ∃ s s' : State, InvariantsHold s ∧ step s = .next s' :=
  ⟨{ sAt 0b00#2 1#3 with inputs := [.sysclk] }, _, by decide, rfl⟩

theorem witness_disabled_sysclk : ∃ (s : State) (rest : List Input), Live s ∧ s.en = false ∧ s.inputs = .sysclk :: rest :=
  ⟨{ State.reset with inputs := [.sysclk] }, [], by decide⟩

theorem witness_enabled_sysclk : ∃ s t : State, (s.en = true ∧ s.divcnt = s.div - 1#16) ∧
    (t.en = true ∧ t.divcnt ≠ t.div - 1#16) :=
  ⟨sAt 0b00#2 0#3, { sAt 0b00#2 0#3 with div := 2#16 }, by decide⟩

/-- A tick that moves T on, one that returns to T = 0, and a stall. -/
theorem witness_tick : ∃ a a' b b' c c' : State, (tick a = .next a' ∧ a'.t = 2#3) ∧
    (tick b = .next b' ∧ b.t = 5#3 ∧ b'.t = 0#3) ∧ (tick c = .next c' ∧ c.t = 0#3 ∧ c'.t = 0#3) :=
  ⟨sAt 0b00#2 1#3, _, sAt 0b00#2 5#3, _, sAt 0b00#2 0#3, _, ⟨rfl, rfl⟩, ⟨rfl, rfl, rfl⟩, ⟨rfl, rfl, rfl⟩⟩

theorem witness_tick_parallel : ∃ a a' : State, tick a = .next a' ∧ a.mode ≠ 0b00#2 :=
  ⟨sAt 0b01#2 1#3, _, rfl, by decide⟩

/-- Two ticks and the last step before the third. -/
theorem witness_kth_tick : ∃ (k j : Nat) (s : State) (rest : List Input), 0 < k ∧ Live s ∧ s.en = true ∧
    s.divcnt = 0#16 ∧ j < s.div.toNat ∧ j + 1 = s.div.toNat ∧
    s.inputs = List.replicate (k * s.div.toNat + j) .sysclk ++ rest :=
  ⟨2, 2, { sAt 0b00#2 0#3 with div := 3#16, inputs := List.replicate 8 .sysclk ++ [.reset] }, [.reset], by decide⟩

theorem witness_bit_in_hand : ∃ (s : State) (b : Bool), s.mode = 0b00#2 ∧ s.t = 0#3 ∧ s.bitsLeft ≠ 0#5 ∧
    b = s.osr.getLsbD 31 :=
  ⟨{ sAt 0b00#2 0#3 with bitsLeft := 23#5 }, false, by decide⟩

theorem witness_bit_of_next_word : ∃ (s : State) (b : Bool), s.mode = 0b00#2 ∧ s.t = 0#3 ∧ s.bitsLeft = 0#5 ∧
    ∃ w rest, s.q = w :: rest ∧ b = w.getLsbD 31 :=
  ⟨{ sAt 0b00#2 0#3 with q := [0x80000000#32] }, true, rfl, rfl, rfl, 0x80000000#32, [], rfl, by decide⟩

theorem witness_pulse_stream : ∃ (ws rest : List Word) (s : State), ws ≠ [] ∧ s.mode = 0b00#2 ∧ s.t = 0#3 ∧
    s.bitsLeft = 0#5 ∧ s.q = ws ++ rest :=
  ⟨[1#32, 2#32], [3#32], { sAt 0b00#2 0#3 with q := [1#32, 2#32, 3#32] }, by decide⟩

theorem witness_padding : ∃ (s : State) (q' : List Word), s.mode = 0b00#2 ∧ s.bitsLeft.toNat ≤ 23 ∧ s.q ≠ q' ∧
    List.Forall₂ (fun w w' : Word => w >>> 8 = w' >>> 8) s.q q' :=
  ⟨{ sAt 0b00#2 0#3 with q := [0x00000100#32] }, [0x000001FF#32], rfl, by decide, by decide,
    .cons (by decide) .nil⟩

theorem witness_parallel_streams : ∃ (ws rest : List Word) (a b : State), ws ≠ [] ∧
    (a.mode = 0b01#2 ∧ a.t = 0#3 ∧ a.q = ws ++ rest) ∧ (b.mode = 0b10#2 ∧ b.t = 0#3 ∧ b.q = ws ++ rest) :=
  ⟨[1#32], [2#32], { sAt 0b01#2 0#3 with q := [1#32, 2#32] }, { sAt 0b10#2 0#3 with q := [1#32, 2#32] }, by decide⟩

/-- The state right after the last Word is dequeued: the longest wait. -/
theorem witness_latch : ∃ s : State, InvariantsHold s ∧ s.mode = 0b00#2 ∧ s.q = [] ∧ s.bitsLeft = 23#5 ∧ s.t = 1#3 :=
  ⟨{ sAt 0b00#2 1#3 with bitsLeft := 23#5, osr := 0x4A000000#32, cur := true }, by decide⟩

theorem witness_drain_parallel : ∃ a b : State,
    (InvariantsHold a ∧ a.q = [] ∧ a.mode = 0b01#2 ∧ (a.t = 0#3 → a.parD = 0#8) ∧
      (a.t = 1#3 → a.osr.extractLsb' 0 8 = 0#8)) ∧
    (InvariantsHold b ∧ b.q = [] ∧ b.mode = 0b10#2 ∧ (b.t ≠ 1#3 → b.parD = 0#8) ∧
      (b.t = 1#3 → b.osr.extractLsb' 0 8 = 0#8)) :=
  ⟨{ sAt 0b01#2 1#3 with parD := 7#8 }, { sAt 0b10#2 1#3 with parD := 7#8 }, by decide⟩

/-- Two clock edges, and an ENABLE that is never reached. -/
theorem witness_hang : ∃ (s : State) (d : Word) (l : List Input), Live s ∧ s.en = false ∧ s.q.length = s.depth ∧
    s.inputs = .access 0x148#9 d :: l ∧ .reset ∉ l ∧ 2 ≤ l.count .sysclk :=
  ⟨{ State.reset with
      q := List.replicate 8 0#32, inputs := [.access 0x148#9 1#32, .sysclk, .access 0x140#9 1#32, .sysclk] },
    1#32, [.sysclk, .access 0x140#9 1#32, .sysclk], by decide⟩

theorem witness_start : ∃ (s : State) (m : BitVec 2) (d : BitVec 16) (rest : List Input), Live s ∧ s.en = false ∧
    m ≠ 0b11#2 ∧ d ≠ 0#16 ∧ s.inputs = .access 0x140#9 (ctrlData m false) :: .access 0x144#9 (clkdivData d) ::
      .access 0x140#9 (ctrlData m true) :: rest :=
  ⟨{ State.reset with inputs := [.access 0x140#9 0x4#32, .access 0x144#9 0x7#32, .access 0x140#9 0x5#32] }, 2#2, 7#16, [],
    by decide⟩

theorem witness_host_step : ∃ (s : State) (acc : BitVec 9) (d : Word) (rest : List Input), Live s ∧
    s.inputs = .access acc d :: rest ∧ ¬ (acc = 0x148#9 ∧ s.q.length = s.depth) :=
  ⟨{ State.reset with inputs := [.access 0x148#9 1#32] }, 0x148#9, 1#32, [], by decide⟩

theorem witness_counting_step : ∃ (s : State) (rest : List Input), Live s ∧ s.inputs = .sysclk :: rest ∧ s.en = true ∧
    s.divcnt ≠ s.div - 1#16 :=
  ⟨{ sAt 0b00#2 3#3 with div := 2#16, inputs := [.sysclk] }, [], by decide⟩

theorem witness_micro_step : ∃ (s : State) (rest : List Input), Live s ∧ s.inputs = .sysclk :: rest ∧ s.en = true ∧
    s.divcnt = s.div - 1#16 :=
  ⟨{ sAt 0b00#2 3#3 with inputs := [.sysclk] }, [], by decide⟩

theorem witness_no_input : ∃ s : State, s.inputs = [] := ⟨State.reset, rfl⟩

/-- A code with its DATA in bits 47:16, the largest DATA, and the last USTATE code. -/
theorem witness_placed_word : ∃ (s : State) (i j : Instr), InvariantsHold s ∧
    (decodeTableWord 16 0xFFFFFFFF0148 = some i ∧ i = .wrTxdata 0xFFFFFFFF#32 ∧
      ¬ (0xFFFFFFFF0148 % 65536 = 0x148 ∧ s.q.length = s.depth)) ∧
    decodeTableWord 8 0x1F = some j :=
  ⟨State.reset, .wrTxdata 0xFFFFFFFF#32, .mode3Unreachable 7#3, by decide⟩

theorem witness_reset_event : ∃ (s : State) (rest : List Input), s.refused = false ∧ s.inputs = .reset :: rest :=
  ⟨{ State.reset with inputs := [.reset] }, [], by decide⟩

theorem witness_broken : ∃ s : State, s.refused = false ∧ dataOk s = false ∧ (nextEnabled s).1 ≠ .reset :=
  ⟨{ State.reset with div := 0#16, inputs := [.sysclk] }, by decide⟩

/-- A broken position at an access that is not held, at a clock edge that is no tick, and at a tick. -/
theorem witness_broken_position : ∃ a b c : State,
    (a.refused = false ∧ positionOk a = false ∧ (nextEnabled a).1 = .access 0x100#9 0#32) ∧
    (b.refused = false ∧ positionOk b = false ∧ tickDue b = false ∧ (nextEnabled b).1 = .sysclk) ∧
    (c.refused = false ∧ dataOk c = true ∧ positionOk c = false ∧ tickDue c = true ∧ (nextEnabled c).1 = .sysclk) :=
  ⟨{ State.reset with mode := 0b11#2, inputs := [.access 0x100#9 0#32] },
    { State.reset with t := 6#3, inputs := [.sysclk] }, { sAt 0b01#2 2#3 with inputs := [.sysclk] }, by decide⟩

/-- One step of each way the Channel changes: a push, a fetch, a reset. -/
theorem witness_channel : ∃ a a' b b' c c' : State, (step a = .next a' ∧ a'.q = a.q ++ [5#32]) ∧
    (step b = .next b' ∧ b.q = 1#32 :: b'.q) ∧ (step c = .next c' ∧ c.q ≠ [] ∧ c'.q = []) :=
  ⟨{ State.reset with inputs := [.access 0x148#9 5#32] }, _,
    { sAt 0b01#2 0#3 with q := [1#32, 2#32], inputs := [.sysclk] }, _,
    { State.reset with q := [1#32], inputs := [.reset] }, _, ⟨rfl, rfl⟩, ⟨rfl, rfl⟩, ⟨rfl, by decide, rfl⟩⟩

/-- CFGERR set by a reserved MODE, and cleared by a STATUS write. -/
theorem witness_cfgerr : ∃ a a' b b' : State, (step a = .next a' ∧ a.cfgerr = false ∧ a'.cfgerr = true) ∧
    (step b = .next b' ∧ b.cfgerr = true ∧ b'.cfgerr = false) :=
  ⟨{ State.reset with inputs := [.access 0x140#9 6#32] }, _,
    { State.reset with cfgerr := true, inputs := [.access 0x14C#9 0x00010000#32] }, _,
    ⟨rfl, rfl, rfl⟩, ⟨rfl, rfl, rfl⟩⟩

theorem witness_config_enabled : ∃ s s' : State, step s = .next s' ∧ s.en = true ∧ (nextEnabled s).1 ≠ .reset ∧
    (nextEnabled s).1 = .access 0x144#9 4#32 :=
  ⟨{ sAt 0b00#2 0#3 with inputs := [.access 0x144#9 4#32] }, _, rfl, rfl, by decide, rfl⟩

theorem witness_host_mode_change : ∃ s s' : State, exec (decodeHostacc 0x140#9 2#32) s = .next s' ∧ s'.mode ≠ s.mode :=
  ⟨State.reset, _, rfl, by decide⟩

theorem witness_run : ∃ (k depth : Nat) (is : List Input) (s' : State), 1 ≤ depth ∧ depth ≤ 255 ∧
    Host.Core.run core k { State.reset with depth := depth, inputs := is } = .next s' :=
  ⟨2, 255, [.access 0x140#9 1#32, .sysclk], _, by decide, by decide, rfl⟩

theorem witness_encode : ∃ i : Instr, i.wf = true ∧ i = .wrReserved20 0x3C#6 0xFFFFFFFF#32 :=
  ⟨.wrReserved20 0x3C#6 0xFFFFFFFF#32, by decide⟩

theorem witness_latch_ticks : ∃ f d : ℕ+, Config.latchTicks f d = 1 := ⟨1, 1, by decide⟩

end Sys2Proof.Tests
end

section
/-! The statements about the scope (00_scope.md): the depth is no state, which operation a step runs, the free input,
and the latch time. -/

open Sys2Proof Sys2Proof.Machine Sys2Proof.Safety

namespace Sys2Proof.Machine

/-! ## No operation writes the depth -/

theorem execWrCtrl_depth (data : Word) (s t : State) (h : execWrCtrl data s = .next t) : t.depth = s.depth := by
  by_cases hm : requestedMode data s = s.mode <;> cases he : s.en
  · rw [execWrCtrl_same_mode data s he hm] at h
    cases h; rfl
  · rw [execWrCtrl_enabled data s he] at h
    cases h; rfl
  · rw [execWrCtrl_new_mode data s he hm] at h
    cases h; rfl
  · rw [execWrCtrl_enabled data s he] at h
    cases h; rfl

theorem execWrClkdiv_depth (data : Word) (s t : State) (h : execWrClkdiv data s = .next t) : t.depth = s.depth := by
  unfold execWrClkdiv at h
  split at h <;> cases h <;> rfl

theorem enqueue_depth (w : Word) (s t : State) (h : enqueue w s = .next t) : t.depth = s.depth := by
  unfold enqueue at h
  split at h <;> cases h
  rfl

theorem execWrTxdata_depth (data : Word) (s t : State) (h : execWrTxdata data s = .next t) : t.depth = s.depth := by
  unfold execWrTxdata at h
  split at h
  · cases h; rfl
  · exact enqueue_depth data s t h

theorem execWrStatus_depth (data : Word) (s t : State) (h : execWrStatus data s = .next t) : t.depth = s.depth := by
  unfold execWrStatus at h
  split at h <;> cases h <;> rfl

theorem exec_host_depth (acc : BitVec 9) (data : Word) (s t : State)
    (h : exec (decodeHostacc acc data) s = .next t) : t.depth = s.depth := by
  rcases exec_host_cases acc data s with ⟨-, hd⟩ | ⟨-, hd⟩ | ⟨-, hd⟩ | ⟨-, hd⟩ | ⟨-, -, v, he⟩ | ⟨-, -, -, he⟩ | ⟨-, he⟩
  · rw [hd] at h
    exact execWrCtrl_depth data s t h
  · rw [hd] at h
    exact execWrClkdiv_depth data s t h
  · rw [hd] at h
    exact execWrTxdata_depth data s t h
  · rw [hd] at h
    exact execWrStatus_depth data s t h
  all_goals
    rw [he] at h
    cases h; rfl

@[simp] theorem takeBit_depth (s : State) : (takeBit s).depth = s.depth := by
  simp [takeBit]

@[simp] theorem loadWord_depth (w : Word) (s : State) : (loadWord w s).depth = s.depth := by
  simp [loadWord]

theorem execPulseFetch_depth (s t : State) (h : execPulseFetch s = .next t) : t.depth = s.depth := by
  obtain ⟨-, rfl⟩ | ⟨w, rest, -, -, rfl⟩ | ⟨-, -, rfl⟩ := execPulseFetch_cases s t h <;> simp

theorem fetchParallel_depth (s t : State) (h : fetchParallel s = .next t) : t.depth = s.depth := by
  obtain ⟨w, rest, -, rfl⟩ | ⟨-, rfl⟩ := fetchParallel_cases s t h <;> rfl

theorem tick_depth (s t : State) (h : tick s = .next t) : t.depth = s.depth := by
  rcases tick_cases s t h with ⟨-, hp⟩ | ⟨-, hc⟩ | ⟨-, hs⟩
  · rcases hp with ⟨-, hf⟩ | ⟨-, rfl⟩ | ⟨-, rfl⟩ | ⟨-, rfl⟩ | ⟨-, rfl⟩ | ⟨-, rfl⟩
    · exact execPulseFetch_depth s t hf
    all_goals rfl
  · rcases hc with ⟨-, hf⟩ | ⟨-, rfl⟩
    · exact fetchParallel_depth s t hf
    · rfl
  · rcases hs with ⟨-, hf⟩ | ⟨-, rfl⟩ | ⟨-, rfl⟩ | ⟨-, rfl⟩
    · exact fetchParallel_depth s t hf
    all_goals rfl

theorem sysclk_depth (s t : State) (h : sysclk s = .next t) : t.depth = s.depth := by
  rcases sysclk_cases s with ⟨-, he⟩ | ⟨-, -, he⟩ | ⟨-, -, he⟩ <;> rw [he] at h
  · cases h; rfl
  · exact tick_depth (s.setDivcnt 0#16) t h
  · cases h; rfl

/-! ## The input a step takes -/

theorem takeInput_cons (s : State) (i : Input) (rest : List Input) (h : s.inputs = i :: rest) :
    takeInput s = (i, s.setInputs rest) := by
  simp [takeInput, h]

/-- Listing the free value that would be taken, and counting it, gives the same next input and the same state. -/
theorem takeInput_list_free (s : State) (h : s.inputs = []) :
    takeInput { s with inputs := [Config.nextInput s.inputCount], inputCount := s.inputCount + 1 } = takeInput s := by
  rcases s with ⟨⟩
  simp only at h
  subst h
  rfl

/-- The next enabled input depends on the input taken and on whether the Channel is full, which is all a held write
looks at. -/
theorem nextEnabled_congr (s t : State) (ht : takeInput t = takeInput s) (hq : t.q = s.q) (hd : t.depth = s.depth) :
    nextEnabled t = nextEnabled s := by
  have hh : ∀ acc data, hostHeld (decodeHostacc acc data) t = hostHeld (decodeHostacc acc data) s := by
    intro acc data
    rw [Bool.eq_iff_iff, hostHeld_eq_true, hostHeld_eq_true, hq, hd]
  simp only [nextEnabled, ht, hh]

/-- A step is fixed by the mark `REFUSED` and the next enabled input. -/
theorem step_congr (s t : State) (hr : t.refused = s.refused) (hn : nextEnabled t = nextEnabled s) :
    step t = step s := by
  simp only [step, stepAgents, hr, hn]

/-- The step with an operation of the HOST next is the HOST agent's. -/
theorem step_of_access (s s' : State) (acc : BitVec 9) (data : Word) (hr : s.refused = false)
    (hn : nextEnabled s = (.access acc data, s')) : step s = hostTurn acc data s' := by
  simp [step, stepAgents, hr, hn]

end Sys2Proof.Machine

namespace Sys2Proof

/-- `LATCH_TICKS` is a quotient rounded up (00_scope.md R4). -/
theorem Config.latchTicks_eq_ceilDiv (f d : ℕ+) :
    Config.latchTicks f d = (Config.latchUs * f.val) ⌈/⌉ (1000000 * d.val) := by
  have hd : 1 ≤ 1000000 * d.val := Nat.mul_pos (by decide) d.pos
  rw [Nat.ceilDiv_eq_add_pred_div, Nat.add_sub_assoc hd, Config.latchTicks]

end Sys2Proof

/-- Settles O54: a host operation, a SYSCLK step and a reset each keep the depth. -/
theorem channelDepthNeverChanges : Obligations.ChannelDepthNeverChanges := by
  intro s s' h
  obtain ⟨-, is, n, u, rfl, ⟨acc, data, -, -, -, he⟩ | ⟨-, -, -, hc⟩ | ⟨-, rfl⟩⟩ := step_cases s s' h
  · exact exec_host_depth acc data ((s.setInputs is).setInputCount n) s' he
  · exact sysclk_depth ((s.setInputs is).setInputCount n) s' hc
  · rfl

/-- Settles O38: an operation that does not hold is the next enabled input, and the invariants admit the HOST's turn. -/
theorem stepRunsTheHostOperation : Obligations.StepRunsTheHostOperation := by
  intro s acc data rest ⟨hr, hinv⟩ hin hheld
  have ht : takeInput s = (.access acc data, s.setInputs rest) := takeInput_cons s _ rest hin
  have hn : nextEnabled s = (.access acc data, s.setInputs rest) := by
    rw [nextEnabled_of_not_held s, ht]
    intro d hd hq
    rw [ht] at hd
    cases hd
    exact hheld ⟨rfl, hq⟩
  rw [step_of_access s _ acc data hr hn]
  exact if_pos hinv

/-- Settles O40: the listed free value is taken as the unlisted one is, held or not. -/
theorem stepWithNoInputTakesAFreeOne : Obligations.StepWithNoInputTakesAFreeOne := by
  intro s h
  symm
  exact step_congr s _ rfl (nextEnabled_congr s _ (takeInput_list_free s h) rfl rfl)

/-- Settles O60: the ceiling of a quotient is at most `n` exactly when `n` times the divisor reaches the dividend. -/
theorem latchTicksLastFiftyMicroseconds : Obligations.LatchTicksLastFiftyMicroseconds := by
  refine ⟨by decide, fun f d n => ?_⟩
  have hd : 0 < 1000000 * d.val := Nat.mul_pos (by decide) d.pos
  rw [Config.latchTicks_eq_ceilDiv, ceilDiv_le_iff_le_mul hd, Config.latchUs, Nat.mul_comm n]

end

section
/-! The statements about the state (10_state.md): the reset values, the invariants of R41, the ways the Channel and
CFGERR change, and the frame of a tick. -/

open Sys2Proof Sys2Proof.Machine Sys2Proof.Safety

namespace Sys2Proof.Machine

/-! ## What a tick leaves unchanged -/

/-- What taking a bit leaves. -/
theorem takeBit_eq (s : State) :
    takeBit s =
      { s with cur := nextPayloadBit s.osr, osr := s.osr <<< 1, bitsLeft := s.bitsLeft - 1#5, t := 1#3 } := rfl

/-- What loading a Word leaves. -/
theorem loadWord_eq (w : Word) (s : State) : loadWord w s = { s with osr := w, bitsLeft := 24#5 } := rfl

@[simp] theorem takeBit_mode (s : State) : (takeBit s).mode = s.mode := rfl
@[simp] theorem takeBit_t (s : State) : (takeBit s).t = 1#3 := rfl
@[simp] theorem takeBit_osr (s : State) : (takeBit s).osr = s.osr <<< 1 := rfl
@[simp] theorem takeBit_bitsLeft (s : State) : (takeBit s).bitsLeft = s.bitsLeft - 1#5 := rfl
@[simp] theorem loadWord_mode (w : Word) (s : State) : (loadWord w s).mode = s.mode := rfl

/-- A pulse fetch writes the sequencer, the Channel and `PULSE_OUT` only (41_pulse_encoder.md R121). -/
theorem execPulseFetch_writes (s t : State) (h : execPulseFetch s = .next t) :
    t = { s with t := t.t, osr := t.osr, bitsLeft := t.bitsLeft, cur := t.cur, q := t.q, pulseOut := t.pulseOut } := by
  obtain ⟨-, rfl⟩ | ⟨w, rest, -, -, rfl⟩ | ⟨-, -, rfl⟩ := execPulseFetch_cases s t h
  · rw [takeBit_eq]; rfl
  · rw [takeBit_eq, loadWord_eq]; rfl
  · rfl

/-- A tick in PULSE writes the sequencer, the Channel and `PULSE_OUT` only (10_state.md R33). -/
theorem tick_writes_of_pulse (s t : State) (hm : s.mode = 0b00#2) (h : tick s = .next t) :
    t = { s with t := t.t, osr := t.osr, bitsLeft := t.bitsLeft, cur := t.cur, q := t.q, pulseOut := t.pulseOut } := by
  rcases tick_cases s t h with ⟨-, hp⟩ | ⟨hc, -⟩ | ⟨hs, -⟩
  · rcases hp with ⟨-, hf⟩ | ⟨-, rfl⟩ | ⟨-, rfl⟩ | ⟨-, rfl⟩ | ⟨-, rfl⟩ | ⟨-, rfl⟩
    · exact execPulseFetch_writes s t hf
    all_goals rfl
  · simp [hm] at hc
  · simp [hm] at hs

/-- A fetch in a PAR mode writes `T`, `OSR`, the Channel and `PAR_CLK` only (42_parallel_encoder.md R141, R144). -/
theorem fetchParallel_writes (s t : State) (h : fetchParallel s = .next t) :
    t = { s with t := t.t, osr := t.osr, q := t.q, parClk := t.parClk } := by
  obtain ⟨w, rest, -, rfl⟩ | ⟨-, rfl⟩ := fetchParallel_cases s t h <;> rfl

/-- A tick in a PAR mode writes `T`, `OSR`, the Channel and the bus only (10_state.md R33). -/
theorem tick_writes_of_parallel (s t : State) (hm : s.mode ≠ 0b00#2) (h : tick s = .next t) :
    t = { s with t := t.t, osr := t.osr, q := t.q, parD := t.parD, parClk := t.parClk } := by
  rcases tick_cases s t h with ⟨hp, -⟩ | ⟨-, hc⟩ | ⟨-, hs⟩
  · exact absurd hp hm
  · rcases hc with ⟨-, hf⟩ | ⟨-, rfl⟩
    · rw [fetchParallel_writes s t hf]
    · rfl
  · rcases hs with ⟨-, hf⟩ | ⟨-, rfl⟩ | ⟨-, rfl⟩ | ⟨-, rfl⟩
    · rw [fetchParallel_writes s t hf]
    all_goals rfl

/-- A tick writes the sequencer, the Channel and the ports only. -/
theorem tick_writes (s t : State) (h : tick s = .next t) :
    t = { s with t := t.t, osr := t.osr, bitsLeft := t.bitsLeft, cur := t.cur, q := t.q, pulseOut := t.pulseOut,
                 parD := t.parD, parClk := t.parClk } := by
  by_cases hm : s.mode = 0b00#2
  · rw [tick_writes_of_pulse s t hm h]
  · rw [tick_writes_of_parallel s t hm h]

/-! ## What a host operation can do (43_channel_host_ops.md) -/

/-- A CLKDIV write is a configuration error, which sets `CFGERR`, or sets the divisor and restarts the divider
(43_channel_host_ops.md R164). -/
theorem execWrClkdiv_cases (data : Word) (s t : State) (h : execWrClkdiv data s = .next t) :
    ((s.en = true ∨ clkdivDiv data = 0#16) ∧ t = s.setCfgerr true) ∨
    (¬ (s.en = true ∨ clkdivDiv data = 0#16) ∧ t = (s.setDiv (clkdivDiv data)).setDivcnt 0#16) := by
  simp only [execWrClkdiv, Bool.or_eq_true, beq_iff_eq] at h
  split at h
  · rename_i hc
    cases h; exact .inl ⟨hc, rfl⟩
  · rename_i hc
    cases h; exact .inr ⟨hc, rfl⟩

/-- A TXDATA write holds, which changes nothing, or appends its Word to a Channel with room
(43_channel_host_ops.md R166). -/
theorem execWrTxdata_cases (data : Word) (s t : State) (h : execWrTxdata data s = .next t) :
    t = s ∨ (s.q.length < s.depth ∧ t = s.setQ (s.q ++ [data])) := by
  unfold execWrTxdata at h
  split at h
  · cases h; exact .inl rfl
  · by_cases hroom : level s < s.depth
    · rw [enqueue_of_room data s hroom] at h
      cases h; exact .inr ⟨hroom, rfl⟩
    · rw [enqueue_without_room data s hroom] at h
      cases h

/-- A STATUS write writes nothing but `CFGERR` (43_channel_host_ops.md R168). -/
theorem execWrStatus_next (data : Word) (s t : State) (h : execWrStatus data s = .next t) :
    t = s.setCfgerr (s.cfgerr && !statusClears data) := by
  unfold execWrStatus at h
  cases h
  cases statusClears data <;> simp [State.setCfgerr]

/-- What a host operation that answers can do: one of the four register writes, or a write of nothing but the read
result and the mark `REFUSED` (43_channel_host_ops.md R160-R170). -/
theorem exec_host_next_cases (acc : BitVec 9) (data : Word) (s t : State)
    (h : exec (decodeHostacc acc data) s = .next t) :
    (acc = 0x140#9 ∧ execWrCtrl data s = .next t) ∨
    (acc = 0x144#9 ∧ execWrClkdiv data s = .next t) ∨
    (acc = 0x148#9 ∧ execWrTxdata data s = .next t) ∨
    (acc = 0x14C#9 ∧ execWrStatus data s = .next t) ∨
    (acc ≠ 0x140#9 ∧ acc ≠ 0x144#9 ∧ t = { s with result := t.result, refused := t.refused }) := by
  rcases exec_host_cases acc data s with ⟨ha, hd⟩ | ⟨ha, hd⟩ | ⟨ha, hd⟩ | ⟨ha, hd⟩ | ⟨-, h6, v, he⟩ | ⟨-, -, hc, he⟩ |
    ⟨hu, he⟩
  · exact .inl ⟨ha, by rwa [hd] at h⟩
  · exact .inr (.inl ⟨ha, by rwa [hd] at h⟩)
  · exact .inr (.inr (.inl ⟨ha, by rwa [hd] at h⟩))
  · exact .inr (.inr (.inr (.inl ⟨ha, by rwa [hd] at h⟩)))
  all_goals
    rw [he] at h
    cases h
    refine .inr (.inr (.inr (.inr ⟨?_, ?_, rfl⟩))) <;> rintro rfl
  · exact absurd h6 (by decide)
  · exact absurd h6 (by decide)
  · exact absurd hc (by decide)
  · exact absurd hc (by decide)
  · exact absurd hu (by unfold Unsupported; decide)
  · exact absurd hu (by unfold Unsupported; decide)

/-! ## How a step changes the Channel (10_state.md R35, R36, 20_memory.md R71) -/

/-- The Word a fetch takes, as the sequencer holds it after the tick: in PULSE its first bit is already in `CUR`
(41_pulse_encoder.md R121, 42_parallel_encoder.md R141, R144). -/
def FetchedInto (w : Word) (mode : BitVec 2) (t : State) : Prop :=
  (mode = 0b00#2 ∧ t.osr = w <<< 1 ∧ t.cur = w.getLsbD 31) ∨ (mode ≠ 0b00#2 ∧ t.osr = w)

/-- A step takes the head of the Channel into the sequencer, at `T` = 0. -/
def TakesHead (s t : State) : Prop :=
  ∃ w, s.t = 0#3 ∧ t.t = 1#3 ∧ s.q = w :: t.q ∧ FetchedInto w s.mode t

theorem execPulseFetch_q (s t : State) (hm : s.mode = 0b00#2) (ht : s.t = 0#3) (h : execPulseFetch s = .next t) :
    t.q = s.q ∨ TakesHead s t := by
  obtain ⟨-, rfl⟩ | ⟨w, rest, -, hq, rfl⟩ | ⟨-, -, rfl⟩ := execPulseFetch_cases s t h
  · exact .inl rfl
  · exact .inr ⟨w, ht, rfl, hq, .inl ⟨hm, rfl, rfl⟩⟩
  · exact .inl rfl

theorem fetchParallel_q (s t : State) (hm : s.mode ≠ 0b00#2) (ht : s.t = 0#3) (h : fetchParallel s = .next t) :
    t.q = s.q ∨ TakesHead s t := by
  obtain ⟨w, rest, hq, rfl⟩ | ⟨-, rfl⟩ := fetchParallel_cases s t h
  · exact .inr ⟨w, ht, rfl, hq, .inr ⟨hm, rfl⟩⟩
  · exact .inl rfl

/-- A tick leaves the Channel or takes its head. -/
theorem tick_q (s t : State) (h : tick s = .next t) : t.q = s.q ∨ TakesHead s t := by
  rcases tick_cases s t h with ⟨hm, hp⟩ | ⟨hm, hc⟩ | ⟨hm, hs⟩
  · rcases hp with ⟨ht, hf⟩ | ⟨-, rfl⟩ | ⟨-, rfl⟩ | ⟨-, rfl⟩ | ⟨-, rfl⟩ | ⟨-, rfl⟩
    · exact execPulseFetch_q s t hm ht hf
    all_goals exact .inl rfl
  · rcases hc with ⟨ht, hf⟩ | ⟨-, rfl⟩
    · exact fetchParallel_q s t (by simp [hm]) ht hf
    · exact .inl rfl
  · rcases hs with ⟨ht, hf⟩ | ⟨-, rfl⟩ | ⟨-, rfl⟩ | ⟨-, rfl⟩
    · exact fetchParallel_q s t (by simp [hm]) ht hf
    all_goals exact .inl rfl

/-- A SYSCLK step leaves the Channel, or, with `EN` = 1, takes its head. -/
theorem sysclk_q (s t : State) (h : sysclk s = .next t) : t.q = s.q ∨ (s.en = true ∧ TakesHead s t) := by
  rcases sysclk_cases s with ⟨-, he⟩ | ⟨hen, -, he⟩ | ⟨-, -, he⟩ <;> rw [he] at h
  · cases h; exact .inl rfl
  · exact (tick_q (s.setDivcnt 0#16) t h).imp id fun htake => ⟨hen, htake⟩
  · cases h; exact .inl rfl

theorem execWrCtrl_q (data : Word) (s t : State) (h : execWrCtrl data s = .next t) : t.q = s.q := by
  cases he : s.en
  · by_cases hm : requestedMode data s = s.mode
    · rw [execWrCtrl_same_mode data s he hm] at h
      cases h; rfl
    · rw [execWrCtrl_new_mode data s he hm] at h
      cases h; rfl
  · rw [execWrCtrl_enabled data s he] at h
    cases h; rfl

/-- A host operation leaves the Channel, or is a TXDATA write that appends its Word to a Channel with room. -/
theorem exec_host_q (acc : BitVec 9) (data : Word) (s t : State) (h : exec (decodeHostacc acc data) s = .next t) :
    t.q = s.q ∨ (acc = 0x148#9 ∧ s.q.length < s.depth ∧ t.q = s.q ++ [data]) := by
  rcases exec_host_next_cases acc data s t h with ⟨-, he⟩ | ⟨-, he⟩ | ⟨ha, he⟩ | ⟨-, he⟩ | ⟨-, -, he⟩
  · exact .inl (execWrCtrl_q data s t he)
  · obtain ⟨-, rfl⟩ | ⟨-, rfl⟩ := execWrClkdiv_cases data s t he <;> exact .inl rfl
  · obtain rfl | ⟨hroom, rfl⟩ := execWrTxdata_cases data s t he
    · exact .inl rfl
    · exact .inr ⟨ha, hroom, rfl⟩
  · exact .inl (by simp [execWrStatus_next data s t he])
  · exact .inl (congrArg State.q he :)

/-! ## What sets and clears CFGERR (10_state.md R31) -/

/-- The four cases of R31, at the input a step takes. -/
def ConfigErrorCause (i : Input) (s : State) : Prop :=
  ∃ data,
    (i = .access 0x140#9 data ∧
      (data.extractLsb' 1 2 = 0b11#2 ∨ (s.en = true ∧ data.extractLsb' 1 2 ≠ s.mode))) ∨
    (i = .access 0x144#9 data ∧ (data.extractLsb' 0 16 = 0#16 ∨ s.en = true))

/-- The two ways `CFGERR` is cleared (10_state.md R31). -/
def ConfigErrorClear (i : Input) : Prop := i = .reset ∨ ∃ data, i = .access 0x14C#9 data ∧ data.getLsbD 16 = true

/-- A step with input `i` sets `CFGERR` in the four cases of R31 only, and clears it in the two ways of R31 only. -/
def CfgerrFollows (i : Input) (s t : State) : Prop :=
  (ConfigErrorCause i s → t.cfgerr = true) ∧
  (s.cfgerr = false → t.cfgerr = true → ConfigErrorCause i s) ∧
  (s.cfgerr = true → t.cfgerr = false → ConfigErrorClear i)

/-- An input that is no cause and keeps `CFGERR`. -/
theorem cfgerrFollows_of_kept (i : Input) (s t : State) (hc : ¬ ConfigErrorCause i s) (h : t.cfgerr = s.cfgerr) :
    CfgerrFollows i s t :=
  ⟨fun h' => absurd h' hc, fun h0 h1 => by simp [h, h0] at h1, fun h1 h0 => by simp [h, h1] at h0⟩

/-- An input that sets `CFGERR` exactly where it is a cause. -/
theorem cfgerrFollows_of_set (i : Input) (s t : State) (e : Bool) (hc : ConfigErrorCause i s ↔ e = true)
    (h : t.cfgerr = (s.cfgerr || e)) : CfgerrFollows i s t := by
  refine ⟨fun h' => ?_, fun h0 h1 => hc.2 ?_, fun h1 h0 => ?_⟩
  · simp [h, hc.1 h']
  · simpa [h, h0] using h1
  · simp [h, h1] at h0

/-- The code of an access that is a cause is that of a CTRL or a CLKDIV write. -/
theorem not_configErrorCause_of_code (acc : BitVec 9) (data : Word) (s : State) (h0 : acc ≠ 0x140#9)
    (h4 : acc ≠ 0x144#9) :
    ¬ ConfigErrorCause (.access acc data) s := by
  rintro ⟨d, ⟨hi, -⟩ | ⟨hi, -⟩⟩
  · exact h0 (by cases hi; rfl)
  · exact h4 (by cases hi; rfl)

/-- A CTRL write is a cause where the model raises its error (43_channel_host_ops.md R162). -/
theorem configErrorCause_ctrl (data : Word) (s : State) :
    ConfigErrorCause (.access 0x140#9 data) s ↔ ctrlError data s = true := by
  have hs : ConfigErrorCause (.access 0x140#9 data) s ↔
      (ctrlMode data = 0b11#2 ∨ (s.en = true ∧ ctrlMode data ≠ s.mode)) := by
    simp [ConfigErrorCause, ctrlMode]
  rw [hs]
  by_cases h3 : ctrlMode data = 0b11#2 <;> simp [ctrlError, requestedMode, h3]

/-- A CLKDIV write is a cause where the model raises its error (43_channel_host_ops.md R164). -/
theorem configErrorCause_clkdiv (data : Word) (s : State) :
    ConfigErrorCause (.access 0x144#9 data) s ↔ (s.en = true ∨ clkdivDiv data = 0#16) := by
  simp [ConfigErrorCause, clkdivDiv, or_comm]

theorem execWrCtrl_cfgerr (data : Word) (s t : State) (h : execWrCtrl data s = .next t) :
    t.cfgerr = (s.cfgerr || ctrlError data s) := by
  cases h
  cases ctrlError data s <;> simp [raiseCfgerr, apply_ite State.cfgerr]

/-- A host operation changes `CFGERR` as R31 says. -/
theorem exec_host_cfgerr (acc : BitVec 9) (data : Word) (s t : State) (h : exec (decodeHostacc acc data) s = .next t) :
    CfgerrFollows (.access acc data) s t := by
  rcases exec_host_next_cases acc data s t h with ⟨rfl, he⟩ | ⟨rfl, he⟩ | ⟨rfl, he⟩ | ⟨rfl, he⟩ | ⟨h0, h4, he⟩
  · exact cfgerrFollows_of_set _ s t _ (configErrorCause_ctrl data s) (execWrCtrl_cfgerr data s t he)
  · have hcause := configErrorCause_clkdiv data s
    obtain ⟨herr, rfl⟩ | ⟨herr, rfl⟩ := execWrClkdiv_cases data s t he
    · exact cfgerrFollows_of_set _ s _ true (by simp [hcause, herr]) (by simp)
    · exact cfgerrFollows_of_kept _ s _ (by rwa [hcause]) rfl
  · refine cfgerrFollows_of_kept _ s t (not_configErrorCause_of_code _ data s (by decide) (by decide)) ?_
    obtain rfl | ⟨-, rfl⟩ := execWrTxdata_cases data s t he <;> rfl
  · have hnot := not_configErrorCause_of_code 0x14C#9 data s (by decide) (by decide)
    have ht : t.cfgerr = (s.cfgerr && !statusClears data) := by simp [execWrStatus_next data s t he]
    refine ⟨fun hc => absurd hc hnot, fun h0 h1 => by simp [ht, h0] at h1, fun h1 h0 => .inr ⟨data, rfl, ?_⟩⟩
    simpa [ht, h1, statusClears] using h0
  · exact cfgerrFollows_of_kept _ s t (not_configErrorCause_of_code acc data s h0 h4) (congrArg State.cfgerr he :)

theorem sysclk_cfgerr (s t : State) (h : sysclk s = .next t) : t.cfgerr = s.cfgerr := by
  rcases sysclk_cases s with ⟨-, he⟩ | ⟨-, -, he⟩ | ⟨-, -, he⟩ <;> rw [he] at h
  · cases h; rfl
  · exact (congrArg State.cfgerr (tick_writes _ t h) :)
  · cases h; rfl

/-! ## The invariants (10_state.md R41), by the part of the state they speak of -/

/-- The clauses of R41 about the sequencer: (1) and (5) to (8). -/
def sequencerOk (s : State) : Bool := bitsLeftOk s && zeroFillOk s && parallelIdleOk s && positionOk s

/-- R41 is a rule of the divider, one of the Channel and one of the sequencer. -/
theorem invariantsOk_iff (s : State) :
    invariantsOk s = true ↔ dividerOk s = true ∧ channelOk s = true ∧ sequencerOk s = true := by
  simp [invariantsOk, dataOk, sequencerOk, and_assoc]

theorem dividerOk_iff (s : State) : dividerOk s = true ↔ 1 ≤ s.div.toNat ∧ s.divcnt.toNat < s.div.toNat := by
  simp [dividerOk]

theorem channelOk_iff (s : State) :
    channelOk s = true ↔ 1 ≤ s.depth ∧ s.depth ≤ Config.channelDepthMax ∧ s.q.length ≤ s.depth := by
  simp only [channelOk, Bool.and_eq_true, decide_eq_true_eq, and_assoc]
  rfl

/-- Clauses (6) and (7) of R41: the payload bits left, and `OSR` filled with 0 behind them. -/
def PayloadOk (s : State) : Prop := s.bitsLeft.toNat ≤ 23 ∧ 2 ^ (24 - s.bitsLeft.toNat) ∣ s.osr.toNat

/-- The sequencer's clauses in PULSE. -/
theorem sequencerOk_iff_of_pulse (s : State) (hm : s.mode = 0b00#2) :
    sequencerOk s = true ↔ positionOk s = true ∧ PayloadOk s := by
  simp [sequencerOk, bitsLeftOk, zeroFillOk, parallelIdleOk, PayloadOk, hm, Nat.dvd_iff_mod_eq_zero, and_comm]

/-- The sequencer's clauses in a PAR mode: no bit is being sent. -/
theorem sequencerOk_iff_of_parallel (s : State) (hm : s.mode ≠ 0b00#2) :
    sequencerOk s = true ↔ positionOk s = true ∧ s.bitsLeft = 0#5 ∧ s.cur = false := by
  have hcases : ∀ m : BitVec 2, m ≠ 0b00#2 → m = 0b01#2 ∨ m = 0b10#2 ∨ m = 0b11#2 := by decide
  rcases hcases s.mode hm with hm | hm | hm <;> by_cases hb : s.bitsLeft = 0#5 <;>
    simp [sequencerOk, bitsLeftOk, zeroFillOk, parallelIdleOk, positionOk, hm, hb, and_comm]

/-- A sequencer just cleared in a legal MODE meets its clauses. -/
theorem sequencerOk_changeMode (m : BitVec 2) (s : State) (hm : m ≠ 0b11#2) : sequencerOk (changeMode m s) = true := by
  have hcases : ∀ m : BitVec 2, m ≠ 0b11#2 → m = 0b00#2 ∨ m = 0b01#2 ∨ m = 0b10#2 := by decide
  rcases hcases m hm with rfl | rfl | rfl <;> rfl

/-- Taking a bit shifts one more 0 into `OSR`, so it stays filled with 0 behind the bits left. -/
theorem takeBit_payloadOk (s : State) (hlo : 1 ≤ s.bitsLeft.toNat) (hhi : s.bitsLeft.toNat ≤ 24)
    (hfill : 2 ^ (24 - s.bitsLeft.toNat) ∣ s.osr.toNat) : PayloadOk (takeBit s) := by
  have hbits : (takeBit s).bitsLeft.toNat = s.bitsLeft.toNat - 1 := by
    rw [takeBit_bitsLeft]
    bv_omega
  have hexp : 24 - (s.bitsLeft.toNat - 1) = (24 - s.bitsLeft.toNat) + 1 := by omega
  refine ⟨by omega, ?_⟩
  rw [hbits, hexp, takeBit_osr, BitVec.toNat_shiftLeft, Nat.shiftLeft_eq, pow_one,
    Nat.dvd_mod_iff (pow_dvd_pow 2 (by omega)), pow_succ]
  exact Nat.mul_dvd_mul_right hfill 2

/-- A pulse fetch keeps the payload clauses: a Word just loaded has 24 bits left and nothing to fill. -/
theorem execPulseFetch_keeps_payload (s t : State) (hs : PayloadOk s) (h : execPulseFetch s = .next t) :
    PayloadOk t := by
  obtain ⟨hbits, hfill⟩ := hs
  obtain ⟨hb, rfl⟩ | ⟨w, rest, -, -, rfl⟩ | ⟨-, -, rfl⟩ := execPulseFetch_cases s t h
  · have hlo : 1 ≤ s.bitsLeft.toNat := by bv_omega
    exact takeBit_payloadOk (s.setPulseOut false) hlo (Nat.le_succ_of_le hbits) hfill
  · have hleft : (loadWord w ((s.setPulseOut false).setQ rest)).bitsLeft.toNat = 24 := rfl
    exact takeBit_payloadOk _ (by omega) (by omega) (by simp [hleft])
  · exact ⟨hbits, hfill⟩

/-- A tick in PULSE keeps the payload clauses: only the fetch writes `OSR` and `BITS_LEFT`. -/
theorem tick_keeps_payload (s t : State) (hm : s.mode = 0b00#2) (hs : PayloadOk s) (h : tick s = .next t) :
    PayloadOk t := by
  rcases tick_cases s t h with ⟨-, hp⟩ | ⟨hc, -⟩ | ⟨hp, -⟩
  · rcases hp with ⟨-, hf⟩ | ⟨-, rfl⟩ | ⟨-, rfl⟩ | ⟨-, rfl⟩ | ⟨-, rfl⟩ | ⟨-, rfl⟩
    · exact execPulseFetch_keeps_payload s t hs hf
    all_goals exact hs
  · simp [hm] at hc
  · simp [hm] at hp

theorem execPulseFetch_positionOk (s t : State) (hm : s.mode = 0b00#2) (ht : s.t = 0#3)
    (h : execPulseFetch s = .next t) : positionOk t = true := by
  obtain ⟨-, rfl⟩ | ⟨w, rest, -, -, rfl⟩ | ⟨-, -, rfl⟩ := execPulseFetch_cases s t h <;>
    simp [positionOk, hm, ht]

theorem fetchParallel_positionOk (s t : State) (hm : s.mode = 0b01#2 ∨ s.mode = 0b10#2) (ht : s.t = 0#3)
    (h : fetchParallel s = .next t) : positionOk t = true := by
  obtain ⟨w, rest, -, rfl⟩ | ⟨-, rfl⟩ := fetchParallel_cases s t h <;> rcases hm with hm | hm <;>
    simp [positionOk, hm, ht]

/-- A tick that answers leaves `T` in its range: it never runs from a code no rule reaches. -/
theorem tick_positionOk (s t : State) (h : tick s = .next t) : positionOk t = true := by
  rcases tick_cases s t h with ⟨hm, hp⟩ | ⟨hm, hc⟩ | ⟨hm, hp⟩
  · rcases hp with ⟨ht, hf⟩ | ⟨-, rfl⟩ | ⟨-, rfl⟩ | ⟨-, rfl⟩ | ⟨-, rfl⟩ | ⟨-, rfl⟩
    · exact execPulseFetch_positionOk s t hm ht hf
    all_goals simp [positionOk, hm]
  · rcases hc with ⟨ht, hf⟩ | ⟨-, rfl⟩
    · exact fetchParallel_positionOk s t (.inl hm) ht hf
    · simp [positionOk, hm]
  · rcases hp with ⟨ht, hf⟩ | ⟨-, rfl⟩ | ⟨-, rfl⟩ | ⟨-, rfl⟩
    · exact fetchParallel_positionOk s t (.inr hm) ht hf
    all_goals simp [positionOk, hm]

/-- A tick keeps the sequencer's clauses. -/
theorem tick_keeps_sequencer (s t : State) (hs : sequencerOk s = true) (h : tick s = .next t) :
    sequencerOk t = true := by
  have hpos : positionOk t = true := tick_positionOk s t h
  have hmode : t.mode = s.mode := (congrArg State.mode (tick_writes s t h) :)
  by_cases hm : s.mode = 0b00#2
  · obtain ⟨-, hpay⟩ := (sequencerOk_iff_of_pulse s hm).1 hs
    exact (sequencerOk_iff_of_pulse t (hmode.trans hm)).2 ⟨hpos, tick_keeps_payload s t hm hpay h⟩
  · obtain ⟨-, hbits, hcur⟩ := (sequencerOk_iff_of_parallel s hm).1 hs
    have hw := tick_writes_of_parallel s t hm h
    refine (sequencerOk_iff_of_parallel t (by rwa [hmode])).2 ⟨hpos, ?_, ?_⟩
    · exact (congrArg State.bitsLeft hw :).trans hbits
    · exact (congrArg State.cur hw :).trans hcur

/-- A tick keeps the Channel within its depth: it adds no Word. -/
theorem tick_keeps_channel (s t : State) (hq : channelOk s = true) (h : tick s = .next t) : channelOk t = true := by
  rw [channelOk_iff] at hq ⊢
  obtain ⟨hlo, hhi, hlen⟩ := hq
  rw [tick_depth s t h]
  refine ⟨hlo, hhi, ?_⟩
  obtain hsame | ⟨w, -, -, hhead, -⟩ := tick_q s t h
  · rwa [hsame]
  · rw [hhead, List.length_cons] at hlen
    omega

/-- A tick does not write the divider. -/
theorem tick_keeps_divider (s t : State) (hd : dividerOk s = true) (h : tick s = .next t) : dividerOk t = true := by
  rw [tick_writes s t h]
  exact hd

/-- A SYSCLK step keeps the invariants: before the divider fires there is room for one more count. -/
theorem sysclk_keeps_invariants (s t : State) (hs : InvariantsHold s) (h : sysclk s = .next t) : InvariantsHold t := by
  obtain ⟨hd, hq, hseq⟩ := (invariantsOk_iff s).1 hs
  obtain ⟨hdiv, hcnt⟩ := (dividerOk_iff s).1 hd
  rcases sysclk_cases s with ⟨-, he⟩ | ⟨-, -, he⟩ | ⟨-, hne, he⟩ <;> rw [he] at h
  · cases h; exact hs
  · have hd0 : dividerOk (s.setDivcnt 0#16) = true := (dividerOk_iff _).2 ⟨hdiv, hdiv⟩
    have hq0 : channelOk (s.setDivcnt 0#16) = true := hq
    have hseq0 : sequencerOk (s.setDivcnt 0#16) = true := hseq
    exact (invariantsOk_iff t).2
      ⟨tick_keeps_divider _ t hd0 h, tick_keeps_channel _ t hq0 h, tick_keeps_sequencer _ t hseq0 h⟩
  · cases h
    refine (invariantsOk_iff _).2 ⟨(dividerOk_iff _).2 ⟨hdiv, ?_⟩, hq, hseq⟩
    simp only [State.setDivcnt_divcnt, State.setDivcnt_div]
    bv_omega

/-- A CTRL write keeps the invariants: a `DIVCNT` it writes is 0, and a new MODE is legal and starts cleared. -/
theorem execWrCtrl_keeps_invariants (data : Word) (s t : State) (hs : InvariantsHold s)
    (h : execWrCtrl data s = .next t) : InvariantsHold t := by
  obtain ⟨hd, hq, hseq⟩ := (invariantsOk_iff s).1 hs
  obtain ⟨hdiv, hcnt⟩ := (dividerOk_iff s).1 hd
  have hcnt' : (if ctrlEn data then 0#16 else s.divcnt).toNat < s.div.toNat := by
    split
    · exact hdiv
    · exact hcnt
  cases he : s.en
  · by_cases hm : requestedMode data s = s.mode
    · rw [execWrCtrl_same_mode data s he hm] at h
      cases h
      exact (invariantsOk_iff _).2 ⟨(dividerOk_iff _).2 ⟨hdiv, hcnt'⟩, hq, hseq⟩
    · have hlegal : ctrlMode data ≠ 0b11#2 := fun h3 => hm (if_pos h3)
      rw [execWrCtrl_new_mode data s he hm] at h
      cases h
      exact (invariantsOk_iff _).2 ⟨(dividerOk_iff _).2 ⟨hdiv, hcnt'⟩, hq, sequencerOk_changeMode _ s hlegal⟩
  · rw [execWrCtrl_enabled data s he] at h
    cases h; exact hs

/-- A CLKDIV write keeps the invariants: a divisor it writes is not 0, and the divider restarts. -/
theorem execWrClkdiv_keeps_invariants (data : Word) (s t : State) (hs : InvariantsHold s)
    (h : execWrClkdiv data s = .next t) : InvariantsHold t := by
  obtain ⟨-, rfl⟩ | ⟨hok, rfl⟩ := execWrClkdiv_cases data s t h
  · exact hs
  · obtain ⟨-, hq, hseq⟩ := (invariantsOk_iff s).1 hs
    have hpos : 0 < (clkdivDiv data).toNat := by
      rw [not_or] at hok
      bv_omega
    exact (invariantsOk_iff _).2 ⟨(dividerOk_iff _).2 ⟨hpos, hpos⟩, hq, hseq⟩

/-- A TXDATA write keeps the invariants: it pushes only where there is room. -/
theorem execWrTxdata_keeps_invariants (data : Word) (s t : State) (hs : InvariantsHold s)
    (h : execWrTxdata data s = .next t) : InvariantsHold t := by
  obtain rfl | ⟨hroom, rfl⟩ := execWrTxdata_cases data s t h
  · exact hs
  · obtain ⟨hd, hq, hseq⟩ := (invariantsOk_iff s).1 hs
    obtain ⟨hlo, hhi, -⟩ := (channelOk_iff s).1 hq
    exact (invariantsOk_iff _).2 ⟨hd, (channelOk_iff _).2 ⟨hlo, hhi, by simpa using hroom⟩, hseq⟩

/-- A host operation keeps the invariants. -/
theorem exec_host_keeps_invariants (acc : BitVec 9) (data : Word) (s t : State) (hs : InvariantsHold s)
    (h : exec (decodeHostacc acc data) s = .next t) : InvariantsHold t := by
  rcases exec_host_next_cases acc data s t h with ⟨-, he⟩ | ⟨-, he⟩ | ⟨-, he⟩ | ⟨-, he⟩ | ⟨-, -, he⟩
  · exact execWrCtrl_keeps_invariants data s t hs he
  · exact execWrClkdiv_keeps_invariants data s t hs he
  · exact execWrTxdata_keeps_invariants data s t hs he
  · rw [execWrStatus_next data s t he]
    exact hs
  · rw [he]
    exact hs

/-! ## Runs -/

/-- What every step keeps holds of every state a run reaches. -/
theorem run_keeps (P : State → Prop) (hstep : ∀ s s' : State, P s → step s = .next s' → P s') (k : Nat) :
    ∀ s s' : State, P s → Host.Core.run core k s = .next s' → P s' := by
  induction k with
  | zero =>
    intro s s' hs h
    cases h; exact hs
  | succ k ih =>
    intro s s' hs h
    rcases hone : step s with u | f | r <;> simp only [Host.Core.run, show core.step s = step s from rfl, hone] at h
    · exact ih u s' (hstep s u hs hone) h
    · cases h
    · cases h

end Sys2Proof.Machine

/-- Settles O45: a SYSCLK step and a host operation each keep the divider's, the Channel's and the sequencer's clauses,
and a reset meets them. -/
theorem stepKeepsTheInvariants : Obligations.StepKeepsTheInvariants := by
  intro s s' hs h
  obtain ⟨-, is, n, u, hu, hcases⟩ := step_cases s s' h
  have hsu : InvariantsHold u := by
    rw [hu]
    exact hs
  obtain ⟨acc, data, -, -, -, he⟩ | ⟨-, -, -, hc⟩ | ⟨-, rfl⟩ := hcases
  · exact exec_host_keeps_invariants acc data u s' hsu he
  · exact sysclk_keeps_invariants u s' hsu hc
  · obtain ⟨-, hq, -⟩ := (invariantsOk_iff u).1 hsu
    obtain ⟨hlo, hhi, -⟩ := (channelOk_iff u).1 hq
    exact applyReset_invariants _ hlo hhi

/-- Settles O44: the state after reset is what the reset event makes of itself. -/
theorem resetMeetsTheInvariants : Obligations.ResetMeetsTheInvariants := fun depth inputs hlo hhi =>
  applyReset_invariants { State.reset with depth := depth, inputs := inputs } hlo hhi

/-- Settles O46: the invariants hold at reset and every step keeps them. -/
theorem reachableStatesMeetTheInvariants : Obligations.ReachableStatesMeetTheInvariants :=
  fun k depth inputs s' hlo hhi h =>
    run_keeps InvariantsHold stepKeepsTheInvariants k _ s' (resetMeetsTheInvariants depth inputs hlo hhi) h

/-- Settles O49: only a push, a fetch and a reset write the Channel. -/
theorem channelChangesOnlyAtItsEnds : Obligations.ChannelChangesOnlyAtItsEnds := by
  intro s s' h
  obtain ⟨-, is, n, u, rfl, ⟨acc, data, hn, -, -, he⟩ | ⟨-, -, -, hc⟩ | ⟨hn, rfl⟩⟩ := step_cases s s' h
  · obtain hsame | ⟨rfl, hroom, hpush⟩ := exec_host_q acc data _ s' he
    · exact .inl hsame
    · exact .inr (.inl ⟨data, hn, hroom, hpush⟩)
  · obtain hsame | ⟨hen, w, ht, ht', hhead, hinto⟩ := sysclk_q _ s' hc
    · exact .inl hsame
    · exact .inr (.inr (.inl ⟨w, hen, ht, ht', hhead, hinto⟩))
  · exact .inr (.inr (.inr ⟨hn, rfl⟩))

/-- Settles O50: the fields a tick can write, in PULSE, in a PAR mode and in any mode. -/
theorem tickWritesOnlyItsOwnPorts : Obligations.TickWritesOnlyItsOwnPorts := by
  intro s s' h
  refine ⟨fun hm => ?_, fun hm => ?_, ?_⟩
  · rw [tick_writes_of_pulse s s' hm h]
    exact ⟨rfl, rfl⟩
  · rw [tick_writes_of_parallel s s' hm h]
    exact ⟨rfl, rfl, rfl⟩
  · rw [tick_writes s s' h]
    exact ⟨rfl, rfl, rfl, rfl, rfl, rfl, rfl, rfl, rfl⟩

/-- Settles O51: a host operation sets and clears `CFGERR` as R31 says, a SYSCLK step keeps it, a reset clears it. -/
theorem configErrorHasOnlyItsFourCauses : Obligations.ConfigErrorHasOnlyItsFourCauses := by
  intro s s' h
  suffices hf : CfgerrFollows (nextEnabled s).1 s s' from hf
  obtain ⟨-, is, n, u, rfl, ⟨acc, data, hn, -, -, he⟩ | ⟨hn, -, -, hc⟩ | ⟨hn, rfl⟩⟩ := step_cases s s' h <;> rw [hn]
  · exact (exec_host_cfgerr acc data _ s' he :)
  · exact cfgerrFollows_of_kept _ s s' (by simp [ConfigErrorCause]) (sysclk_cfgerr _ s' hc :)
  · exact ⟨by simp [ConfigErrorCause], fun _ h1 => absurd h1 Bool.false_ne_true, fun _ _ => .inl rfl⟩

/-- Settles O42: each field and each read value of the reset state is its literal, and a reset keeps the mark. -/
theorem resetValues : Obligations.ResetValues :=
  ⟨rfl, rfl, rfl, rfl, rfl, rfl, rfl, rfl, rfl, rfl, rfl, rfl, rfl, rfl, rfl, rfl, rfl, fun _ => rfl⟩

end

section
/-! The statements about what the host's operations leave alone (20_memory.md R68, R70): a repeated CTRL write, and the
sequencer's own state. -/

open Sys2Proof Sys2Proof.Machine Sys2Proof.Safety

namespace Sys2Proof.Machine

/-! ## What a CTRL write can do, said once for all states -/

/-- A CTRL write leaves MODE and the sequencer, or, with `EN` = 0, makes the MODE change it asks for
(43_channel_host_ops.md R162). -/
theorem execWrCtrl_cases (data : Word) (s t : State) (h : execWrCtrl data s = .next t) :
    ((s.en = true ∨ requestedMode data s = s.mode) ∧
      t = { s with en := ctrlEn data, divcnt := t.divcnt, cfgerr := t.cfgerr }) ∨
    (s.en = false ∧ requestedMode data s ≠ s.mode ∧
      t = { changeMode (ctrlMode data) s with en := ctrlEn data, divcnt := t.divcnt }) := by
  cases he : s.en
  · by_cases hm : requestedMode data s = s.mode
    · rw [execWrCtrl_same_mode data s he hm] at h
      cases h; exact .inl ⟨.inr hm, rfl⟩
    · rw [execWrCtrl_new_mode data s he hm] at h
      cases h; exact .inr ⟨rfl, hm, rfl⟩
  · rw [execWrCtrl_enabled data s he] at h
    cases h; exact .inl ⟨.inl rfl, rfl⟩

theorem execWrCtrl_en (data : Word) (s t : State) (h : execWrCtrl data s = .next t) : t.en = ctrlEn data := by
  obtain ⟨-, ht⟩ | ⟨-, -, ht⟩ := execWrCtrl_cases data s t h <;> rw [ht]

/-! ## The MODE a CTRL write asks for -/

theorem requestedMode_of_legal (data : Word) (s : State) (h : ctrlMode data ≠ 0b11#2) :
    requestedMode data s = ctrlMode data := if_neg h

/-- A request for another MODE than the one held is for a legal one: the reserved code asks for the MODE held. -/
theorem requestedMode_of_ne_mode (data : Word) (s : State) (h : requestedMode data s ≠ s.mode) :
    requestedMode data s = ctrlMode data := requestedMode_of_legal data s fun h3 => h (if_pos h3)

theorem requestedMode_eq_mode_iff (data : Word) (s : State) :
    requestedMode data s = s.mode ↔ ctrlMode data = 0b11#2 ∨ ctrlMode data = s.mode := by
  by_cases h3 : ctrlMode data = 0b11#2 <;> simp [requestedMode, h3]

/-- MODE after a CTRL write: the one held while `EN` = 1, the one asked for while `EN` = 0 (43_channel_host_ops.md
R162). -/
theorem execWrCtrl_mode (data : Word) (s t : State) (h : execWrCtrl data s = .next t) :
    t.mode = if s.en then s.mode else requestedMode data s := by
  obtain ⟨hkeep, ht⟩ | ⟨he, hm, ht⟩ := execWrCtrl_cases data s t h <;> rw [ht]
  · obtain he | hm := hkeep
    · simp [he]
    · simp [hm]
  · simp [he, requestedMode_of_ne_mode data s hm]

/-! ## A repeated CTRL write (20_memory.md R68) -/

/-- A CTRL write changes nothing where `EN` has its value already, MODE cannot change, and an error it would report is
reported already. -/
theorem execWrCtrl_fixed (data : Word) (t : State) (hen : t.en = ctrlEn data)
    (hmode : t.en = true ∨ requestedMode data t = t.mode) (herr : ctrlError data t = true → t.cfgerr = true) :
    execWrCtrl data t = .next t := by
  have hcfg : (t.cfgerr || ctrlError data t) = t.cfgerr := by simpa using herr
  cases he : t.en
  · rw [execWrCtrl_same_mode data t he (hmode.resolve_left (by simp [he])), hcfg, ← hen, he]
    cases t; cases he; rfl
  · rw [execWrCtrl_enabled data t he, hcfg, ← hen]

/-- After a CTRL write with `EN` = 0 the MODE held is the one the write asks for. -/
theorem requestedMode_after_disabled (data : Word) (s t : State) (h : execWrCtrl data s = .next t)
    (he : s.en = false) : requestedMode data t = t.mode := by
  have hmode : t.mode = requestedMode data s := by simpa [he] using execWrCtrl_mode data s t h
  rw [requestedMode_eq_mode_iff, hmode]
  by_cases h3 : ctrlMode data = 0b11#2
  · exact .inl h3
  · exact .inr (requestedMode_of_legal data s h3).symm

/-- After a CTRL write with `EN` = 1 the MODE held is that before it. -/
theorem mode_after_enabled (data : Word) (s t : State) (h : execWrCtrl data s = .next t) (he : s.en = true) :
    t.mode = s.mode := by
  simpa [he] using execWrCtrl_mode data s t h

/-- A CTRL write that is an error when repeated was one the first time. -/
theorem ctrlError_of_repeated (data : Word) (s t : State) (h : execWrCtrl data s = .next t)
    (herr : ctrlError data t = true) : ctrlError data s = true := by
  by_cases h3 : ctrlMode data = 0b11#2
  · simp [ctrlError, h3]
  obtain ⟨-, hne⟩ : t.en = true ∧ requestedMode data t ≠ t.mode := by simpa [ctrlError, h3] using herr
  cases he : s.en
  · exact absurd (requestedMode_after_disabled data s t h he) hne
  · rw [requestedMode_of_legal data t h3, mode_after_enabled data s t h he] at hne
    simp [ctrlError, he, requestedMode_of_legal data s h3, hne]

/-! ## The frame of a host operation (20_memory.md R70) -/

/-- A host operation leaves MODE, the sequencer's own state and the ports, or is a CTRL write with `EN` = 0 that makes
the MODE change it asks for. -/
theorem exec_host_sequencer_cases (acc : BitVec 9) (data : Word) (s t : State)
    (h : exec (decodeHostacc acc data) s = .next t) :
    t = { s with en := t.en, div := t.div, divcnt := t.divcnt, cfgerr := t.cfgerr, q := t.q, result := t.result,
                 refused := t.refused } ∨
    (acc = 0x140#9 ∧ s.en = false ∧ ctrlMode data ≠ s.mode ∧
      t = { changeMode (ctrlMode data) s with en := ctrlEn data, divcnt := t.divcnt }) := by
  rcases exec_host_next_cases acc data s t h with ⟨ha, he⟩ | ⟨-, he⟩ | ⟨-, he⟩ | ⟨-, he⟩ | ⟨-, -, he⟩
  · obtain ⟨-, ht⟩ | ⟨hen, hm, ht⟩ := execWrCtrl_cases data s t he
    · left; rw [ht]
    · rw [requestedMode_of_ne_mode data s hm] at hm
      exact .inr ⟨ha, hen, hm, ht⟩
  · obtain ⟨-, rfl⟩ | ⟨-, rfl⟩ := execWrClkdiv_cases data s t he <;> exact .inl rfl
  · obtain rfl | ⟨-, rfl⟩ := execWrTxdata_cases data s t he <;> exact .inl rfl
  · left; rw [execWrStatus_next data s t he]; rfl
  · left; rw [he]

end Sys2Proof.Machine

/-- Settles O6: the first write leaves `EN`, MODE and `CFGERR` as the second would, but where it clears `EN` and its
MODE is refused; there the second write finds `EN` = 0 and makes the MODE change. -/
theorem wrCtrlRepeatedChangesNothingMore : Obligations.WrCtrlRepeatedChangesNothingMore := by
  intro s t data h
  have hen : t.en = ctrlEn data := execWrCtrl_en data s t h
  refine ⟨fun hnot => execWrCtrl_fixed data t hen ?_ fun herr => ?_, fun ⟨he, hclear, hlegal, _⟩ => ?_⟩
  · cases he : s.en
    · exact .inr (requestedMode_after_disabled data s t h he)
    · rw [hen, requestedMode_eq_mode_iff, mode_after_enabled data s t h he]
      by_contra hcon
      simp only [not_or, Bool.not_eq_true] at hcon
      exact hnot ⟨he, hcon.1, hcon.2⟩
  · rw [execWrCtrl_cfgerr data s t h, ctrlError_of_repeated data s t h herr, Bool.or_true]
  · refine ⟨_, rfl, ?_, mode_after_enabled data s t h he⟩
    rw [execWrCtrl_mode data t _ rfl, hen, hclear]
    exact requestedMode_of_legal data t hlegal

/-- Settles O53: the frame of every host operation, and what a MODE change clears. -/
theorem hostReachesTheSequencerOnlyByAModeChange : Obligations.HostReachesTheSequencerOnlyByAModeChange := by
  intro acc data s s' h
  obtain hs | ⟨ha, hen, hm, hs⟩ := exec_host_sequencer_cases acc data s s' h <;> rw [hs]
  · exact .inl ⟨rfl, rfl, rfl, rfl, rfl, rfl, rfl, rfl⟩
  · exact .inr ⟨ha, hen, rfl, hm, rfl, rfl, rfl, rfl, rfl, rfl, rfl, rfl⟩

end

section
/-! The statements about the encodings (30_encoding.md): decoder and encoder undo each other, each code is of one row of
the opcode table, the padding of a pulse Word is never sent, and a placed word is the instruction the next step runs. -/

open Sys2Proof Sys2Proof.Machine Sys2Proof.Safety

namespace Sys2Proof

/-! ## The decoder of a `HOSTACC` on its fields -/

theorem size_cases (size : BitVec 2) : size = 0b00#2 ∨ size = 0b01#2 ∨ size = 0b11#2 ∨ size = 0b10#2 := by
  revert size; decide

@[simp] theorem decodeAccess_hostaccOf (size : BitVec 2) (w : Bool) (off : BitVec 6) (data : Word) :
    decodeAccess (hostaccOf size w off) data = if w then .write data else .read := by
  simp [decodeAccess]

theorem decodeHostacc_byte (w : Bool) (off : BitVec 6) (data : Word) :
    decodeHostacc (hostaccOf 0b00#2 w off) data = .refusedByte (if w then .write data else .read) off := by
  simp [decodeHostacc]

theorem decodeHostacc_halfword (w : Bool) (off : BitVec 6) (data : Word) :
    decodeHostacc (hostaccOf 0b01#2 w off) data = .refusedHalfword (if w then .write data else .read) off := by
  simp [decodeHostacc]

theorem decodeHostacc_size3 (w : Bool) (off : BitVec 6) (data : Word) :
    decodeHostacc (hostaccOf 0b11#2 w off) data = .refusedSize3 (if w then .write data else .read) off := by
  simp [decodeHostacc]

theorem decodeHostacc_odd (w : Bool) (off : BitVec 6) (data : Word) (h0 : off.getLsbD 0 = true) :
    decodeHostacc (hostaccOf 0b10#2 w off) data = .refusedOdd (if w then .write data else .read) off := by
  simp [decodeHostacc, -BitVec.getLsbD_eq_getElem, h0]

theorem decodeHostacc_off2 (w : Bool) (off : BitVec 6) (data : Word) (h0 : off.getLsbD 0 = false)
    (h1 : off.getLsbD 1 = true) :
    decodeHostacc (hostaccOf 0b10#2 w off) data = .refusedOff2 (if w then .write data else .read) off := by
  simp [decodeHostacc, -BitVec.getLsbD_eq_getElem, h0, h1]

theorem decodeHostacc_aligned (w : Bool) (off : BitVec 6) (data : Word) (h0 : off.getLsbD 0 = false)
    (h1 : off.getLsbD 1 = false) :
    decodeHostacc (hostaccOf 0b10#2 w off) data = if w then decodeWrite off data else decodeRead off := by
  simp [decodeHostacc, -BitVec.getLsbD_eq_getElem, h0, h1]

/-! ## Where the operands of a row lie -/

theorem isReserved10_iff (off : BitVec 6) : Instr.isReserved10 off = true ↔
    off.getLsbD 0 = false ∧ off.getLsbD 1 = false ∧ off.getLsbD 5 = false ∧
      off ≠ 0x00#6 ∧ off ≠ 0x04#6 ∧ off ≠ 0x08#6 ∧ off ≠ 0x0C#6 := by
  revert off; decide

theorem isReserved20_iff (off : BitVec 6) : Instr.isReserved20 off = true ↔
    off.getLsbD 0 = false ∧ off.getLsbD 1 = false ∧ off.getLsbD 5 = true := by
  revert off; decide

theorem ne_register_of_bit5 (off : BitVec 6) (h : off.getLsbD 5 = true) :
    off ≠ 0x00#6 ∧ off ≠ 0x04#6 ∧ off ≠ 0x08#6 ∧ off ≠ 0x0C#6 := by
  revert off; decide

theorem off2_iff (off : BitVec 6) :
    (off.extractLsb' 0 2 == 0b10#2) = true ↔ off.getLsbD 0 = false ∧ off.getLsbD 1 = true := by
  revert off; decide

/-! ## The direction and the DATA of an access -/

/-- The field `W` of an access (30_encoding.md R81). -/
def Access.isWrite : Access → Bool
  | .read => false
  | .write _ => true

/-- The DATA a decoder is given with an access: a read's is ignored (30_encoding.md R80). -/
def Access.operand : Access → Word
  | .read => 0#32
  | .write data => data

@[simp] theorem Access.ite_isWrite_operand (a : Access) : (if a.isWrite then .write a.operand else .read) = a := by
  cases a <;> rfl

/-- The access of the field `W` and a DATA operand has the code with that field, and carries the DATA if it is a
write (30_encoding.md R89). -/
theorem encodeAccess_ite (size : BitVec 2) (w : Bool) (data : Word) (off : BitVec 6) :
    encodeAccess size (if w then .write data else .read) off =
      .hostacc (hostaccOf size w off) (if w then some data else none) := by
  cases w <;> rfl

/-! ## The layout in bytes (log entry 11) -/

theorem hostacc_of_high_low (acc : BitVec 9) : acc.extractLsb' 8 1 ++ acc.extractLsb' 0 8 = acc := by
  revert acc; decide

theorem hostacc_of_bytes (acc : BitVec 9) :
    ((0#7 ++ acc.extractLsb' 8 1).extractLsb' 0 1 ++ acc.extractLsb' 0 8 : BitVec 9) = acc := by
  rw [BitVec.extractLsb'_append_eq_right, hostacc_of_high_low]

theorem high_byte_padding (b : BitVec 1) : (0#7 ++ b).extractLsb' 1 7 = 0#7 := by
  rw [BitVec.extractLsb'_append_eq_left]

theorem decodeBytes_of_read (acc : BitVec 9) (rest : List Byte) (h : hostaccW acc = false) :
    decodeBytes .hostacc (bytesOfCode (.hostacc acc none) ++ rest) = .ok (decodeHostacc acc 0#32, rest) := by
  simp only [bytesOfCode, List.cons_append, List.nil_append, decodeBytes, high_byte_padding, hostacc_of_bytes, h]
  rfl

theorem decodeBytes_of_write (acc : BitVec 9) (data : Word) (rest : List Byte) (h : hostaccW acc = true) :
    decodeBytes .hostacc (bytesOfCode (.hostacc acc (some data)) ++ rest) = .ok (decodeHostacc acc data, rest) := by
  simp only [bytesOfCode, bytesOfData, List.cons_append, List.nil_append, decodeBytes, high_byte_padding,
    hostacc_of_bytes, h, if_true, dataOfBytes_bytesOfData]

theorem decodeBytes_of_ustate (u : BitVec 5) (rest : List Byte) :
    decodeBytes .ustate (bytesOfCode (.ustate u) ++ rest) = .ok (decodeUstate u, rest) := by
  simp only [bytesOfCode, List.cons_append, List.nil_append, decodeBytes, BitVec.extractLsb'_append_eq_left,
    BitVec.extractLsb'_append_eq_right, if_true]

theorem decodeBytes_of_access (size : BitVec 2) (a : Access) (off : BitVec 6) (rest : List Byte) :
    decodeBytes .hostacc (bytesOfCode (encodeAccess size a off) ++ rest) =
      .ok (decodeHostacc (hostaccOf size a.isWrite off) a.operand, rest) := by
  cases a with
  | read => exact decodeBytes_of_read _ rest (hostaccW_hostaccOf size false off)
  | write data => exact decodeBytes_of_write _ data rest (hostaccW_hostaccOf size true off)

/-! ## The code of an instruction decodes to it -/

theorem decodeHostacc_reserved10 (w : Bool) (off : BitVec 6) (data : Word) (h : Instr.isReserved10 off = true) :
    decodeHostacc (hostaccOf 0b10#2 w off) data = if w then .wrReserved10 off data else .rdReserved10 off := by
  obtain ⟨h0, h1, h5, hctrl, hclkdiv, htxdata, hstatus⟩ := (isReserved10_iff off).1 h
  rw [decodeHostacc_aligned w off data h0 h1]
  simp only [decodeRead, decodeWrite, hctrl, hclkdiv, htxdata, hstatus, h5, Bool.false_eq_true, if_false]

theorem decodeHostacc_reserved20 (w : Bool) (off : BitVec 6) (data : Word) (h : Instr.isReserved20 off = true) :
    decodeHostacc (hostaccOf 0b10#2 w off) data = if w then .wrReserved20 off data else .rdReserved20 off := by
  obtain ⟨h0, h1, h5⟩ := (isReserved20_iff off).1 h
  obtain ⟨hctrl, hclkdiv, htxdata, hstatus⟩ := ne_register_of_bit5 off h5
  rw [decodeHostacc_aligned w off data h0 h1]
  simp only [decodeRead, decodeWrite, hctrl, hclkdiv, htxdata, hstatus, h5, if_true, if_false]

theorem decodeUstate_pulseUnreachable (t : BitVec 3) (h : 6 ≤ t.toNat) :
    decodeUstate (ustateOf 0b00#2 t) = .pulseUnreachable t := by
  revert t; decide

theorem decodeUstate_parcUnreachable23 (t : BitVec 3) (h : t.extractLsb' 1 2 = 0b01#2) :
    decodeUstate (ustateOf 0b01#2 t) = .parcUnreachable23 t := by
  revert t; decide

theorem decodeUstate_parcUnreachable47 (t : BitVec 3) (h : 4 ≤ t.toNat) :
    decodeUstate (ustateOf 0b01#2 t) = .parcUnreachable47 t := by
  revert t; decide

theorem decodeUstate_parsUnreachable (t : BitVec 3) (h : 4 ≤ t.toNat) :
    decodeUstate (ustateOf 0b10#2 t) = .parsUnreachable t := by
  revert t; decide

theorem decodeUstate_mode3Unreachable (t : BitVec 3) : decodeUstate (ustateOf 0b11#2 t) = .mode3Unreachable t := by
  revert t; decide

/-- The access an instruction is encoded as decodes to it. -/
def EncodedAsAccess (i : Instr) : Prop :=
  ∃ size a off, encodeCode i = encodeAccess size a off ∧ decodeHostacc (hostaccOf size a.isWrite off) a.operand = i

/-- The `USTATE` code an instruction is encoded as decodes to it. -/
def EncodedAsUstate (i : Instr) : Prop := ∃ u, encodeCode i = .ustate u ∧ decodeUstate u = i

/-- Every well-formed instruction is encoded as an access or a `USTATE` code that decodes to it. -/
theorem encoded_of_wf (i : Instr) (h : i.wf = true) : EncodedAsAccess i ∨ EncodedAsUstate i := by
  cases i with
  | rdCtrl | rdClkdiv | rdTxdata | rdStatus => exact .inl ⟨_, .read, _, rfl, rfl⟩
  | wrCtrl data | wrClkdiv data | wrTxdata data | wrStatus data =>
    exact .inl ⟨_, .write data, _, rfl, decodeHostacc_aligned true _ data rfl rfl⟩
  | rdReserved10 off => exact .inl ⟨_, .read, off, rfl, decodeHostacc_reserved10 false off _ h⟩
  | rdReserved20 off => exact .inl ⟨_, .read, off, rfl, decodeHostacc_reserved20 false off _ h⟩
  | wrReserved10 off data => exact .inl ⟨_, .write data, off, rfl, decodeHostacc_reserved10 true off data h⟩
  | wrReserved20 off data => exact .inl ⟨_, .write data, off, rfl, decodeHostacc_reserved20 true off data h⟩
  | refusedByte a off => exact .inl ⟨_, a, off, rfl, by rw [decodeHostacc_byte, a.ite_isWrite_operand]⟩
  | refusedHalfword a off => exact .inl ⟨_, a, off, rfl, by rw [decodeHostacc_halfword, a.ite_isWrite_operand]⟩
  | refusedSize3 a off => exact .inl ⟨_, a, off, rfl, by rw [decodeHostacc_size3, a.ite_isWrite_operand]⟩
  | refusedOdd a off => exact .inl ⟨_, a, off, rfl, by rw [decodeHostacc_odd _ _ _ h, a.ite_isWrite_operand]⟩
  | refusedOff2 a off =>
    obtain ⟨h0, h1⟩ := (off2_iff off).1 h
    exact .inl ⟨_, a, off, rfl, by rw [decodeHostacc_off2 _ _ _ h0 h1, a.ite_isWrite_operand]⟩
  | pulseFetch | pulseLead0 | pulseLead1 | pulseData0 | pulseData1 | pulseTrail0 => exact .inr ⟨_, rfl, rfl⟩
  | parcFetch | parcXfer | parsFetch | parsDupd | parsClkh | parsHold => exact .inr ⟨_, rfl, rfl⟩
  | pulseUnreachable t => exact .inr ⟨_, rfl, decodeUstate_pulseUnreachable t (of_decide_eq_true h)⟩
  | parcUnreachable23 t => exact .inr ⟨_, rfl, decodeUstate_parcUnreachable23 t (beq_iff_eq.1 h)⟩
  | parcUnreachable47 t => exact .inr ⟨_, rfl, decodeUstate_parcUnreachable47 t (of_decide_eq_true h)⟩
  | parsUnreachable t => exact .inr ⟨_, rfl, decodeUstate_parsUnreachable t (of_decide_eq_true h)⟩
  | mode3Unreachable t => exact .inr ⟨_, rfl, decodeUstate_mode3Unreachable t⟩

/-! ## The instruction of a code is well formed and encodes to it -/

theorem decodeRead_wf (off : BitVec 6) (h0 : off.getLsbD 0 = false) (h1 : off.getLsbD 1 = false) :
    (decodeRead off).wf = true := by
  revert off; decide

theorem decodeWrite_wf (off : BitVec 6) (data : Word) (h0 : off.getLsbD 0 = false) (h1 : off.getLsbD 1 = false) :
    (decodeWrite off data).wf = true := by
  unfold decodeWrite
  split_ifs with hctrl hclkdiv htxdata hstatus h5
  · rfl
  · rfl
  · rfl
  · rfl
  · exact (isReserved20_iff off).2 ⟨h0, h1, h5⟩
  · exact (isReserved10_iff off).2 ⟨h0, h1, by simpa using h5, hctrl, hclkdiv, htxdata, hstatus⟩

theorem encodeCode_decodeRead (off : BitVec 6) :
    encodeCode (decodeRead off) = .hostacc (hostaccOf 0b10#2 false off) none := by
  revert off; decide

theorem encodeCode_decodeWrite (off : BitVec 6) (data : Word) :
    encodeCode (decodeWrite off data) = .hostacc (hostaccOf 0b10#2 true off) (some data) := by
  unfold decodeWrite
  split_ifs with hctrl hclkdiv htxdata hstatus
  · rw [hctrl]; rfl
  · rw [hclkdiv]; rfl
  · rw [htxdata]; rfl
  · rw [hstatus]; rfl
  · rfl
  · rfl

theorem decodeUstate_wf (u : BitVec 5) : (decodeUstate u).wf = true := by
  revert u; decide

theorem encodeCode_decodeUstate (u : BitVec 5) : encodeCode (decodeUstate u) = .ustate u := by
  revert u; decide

theorem decodeHostacc_wf_and_encode (acc : BitVec 9) (data : Word) :
    (decodeHostacc acc data).wf = true ∧
    encodeCode (decodeHostacc acc data) = .hostacc acc (if hostaccW acc then some data else none) := by
  rw [← hostaccOf_fields acc]
  generalize hostaccSize acc = size
  generalize hostaccW acc = w
  generalize hostaccOff acc = off
  rw [hostaccW_hostaccOf]
  rcases size_cases size with rfl | rfl | rfl | rfl
  · rw [decodeHostacc_byte]
    exact ⟨rfl, encodeAccess_ite _ w data off⟩
  · rw [decodeHostacc_halfword]
    exact ⟨rfl, encodeAccess_ite _ w data off⟩
  · rw [decodeHostacc_size3]
    exact ⟨rfl, encodeAccess_ite _ w data off⟩
  cases h0 : off.getLsbD 0
  · cases h1 : off.getLsbD 1
    · rw [decodeHostacc_aligned w off data h0 h1]
      cases w
      · exact ⟨decodeRead_wf off h0 h1, encodeCode_decodeRead off⟩
      · exact ⟨decodeWrite_wf off data h0 h1, encodeCode_decodeWrite off data⟩
    · rw [decodeHostacc_off2 w off data h0 h1]
      exact ⟨(off2_iff off).2 ⟨h0, h1⟩, encodeAccess_ite _ w data off⟩
  · rw [decodeHostacc_odd w off data h0]
    exact ⟨h0, encodeAccess_ite _ w data off⟩

/-! ## The opcode table (30_encoding.md R82) -/

theorem row_mem_opcodeTable (i : Instr) : i.row ∈ opcodeTable := by
  cases i <;> simp [opcodeTable, Instr.row]

/-- The encoder's code of a well-formed instruction is a code of the instruction's row. -/
theorem row_hits_encodeCode (i : Instr) : Laws.RowOfCode.Statement i := by
  open Laws.RowOfCode in
  cases i
  exacts [rdCtrl, wrCtrl _, rdClkdiv, wrClkdiv _, rdTxdata, wrTxdata _, rdStatus, wrStatus _,
    rdReserved10 _, rdReserved20 _, wrReserved10 _ _, wrReserved20 _ _,
    refusedByte _ _, refusedHalfword _ _, refusedSize3 _ _, refusedOdd _ _, refusedOff2 _ _,
    pulseFetch, pulseLead0, pulseLead1, pulseData0, pulseData1, pulseTrail0, pulseUnreachable _,
    parcFetch, parcXfer, parcUnreachable23 _, parcUnreachable47 _,
    parsFetch, parsDupd, parsClkh, parsHold, parsUnreachable _, mode3Unreachable _]

theorem row_hits_hostacc (acc : BitVec 9) (data : Word) :
    (decodeHostacc acc data).row.hits .hostacc acc.toNat = true := by
  obtain ⟨hwf, hcode⟩ := decodeHostacc_wf_and_encode acc data
  have h := row_hits_encodeCode (decodeHostacc acc data) hwf
  rwa [hcode] at h

theorem row_hits_ustate (u : BitVec 5) : (decodeUstate u).row.hits .ustate u.toNat = true := by
  have h := row_hits_encodeCode (decodeUstate u) (decodeUstate_wf u)
  rwa [encodeCode_decodeUstate] at h

theorem OpcodeRow.hits_iff (r : OpcodeRow) (f : Format) (code : Nat) :
    r.hits f code = true ↔ r.format = f ∧ code &&& r.mask = r.pattern := by
  simp [OpcodeRow.hits]

/-- Two rows of different forms, or with patterns that differ in a bit both masks fix. -/
def OpcodeRow.Conflict (r r' : OpcodeRow) : Prop :=
  r.format ≠ r'.format ∨ r.pattern &&& r'.mask ≠ r'.pattern &&& r.mask

theorem OpcodeRow.conflict_symm (r r' : OpcodeRow) (h : r.Conflict r') : r'.Conflict r :=
  h.imp Ne.symm Ne.symm

/-- No code is one of two rows in conflict. -/
theorem OpcodeRow.not_conflict_of_hits (r r' : OpcodeRow) (f : Format) (code : Nat) (h : r.hits f code = true)
    (h' : r'.hits f code = true) : ¬ r.Conflict r' := by
  obtain ⟨hf, hp⟩ := (r.hits_iff f code).1 h
  obtain ⟨hf', hp'⟩ := (r'.hits_iff f code).1 h'
  rintro (hne | hne)
  · exact hne (hf.trans hf'.symm)
  · rw [← hp, ← hp', Nat.and_right_comm] at hne
    exact hne rfl

theorem OpcodeRow.ne_of_conflict (r r' : OpcodeRow) (h : r.Conflict r') : r ≠ r' := by
  rintro rfl
  exact h.elim (· rfl) (· rfl)

theorem opcodeTable_pairwise_conflict : opcodeTable.Pairwise OpcodeRow.Conflict := by
  unfold OpcodeRow.Conflict
  decide

/-- A code is of one row of the table only. -/
theorem opcodeTable_hits_unique (r r' : OpcodeRow) (f : Format) (code : Nat) (hr : r ∈ opcodeTable)
    (hr' : r' ∈ opcodeTable) (h : r.hits f code = true) (h' : r'.hits f code = true) : r = r' := by
  by_contra hne
  have hsymm : Std.Symm OpcodeRow.Conflict := ⟨OpcodeRow.conflict_symm⟩
  have hc : r.Conflict r' := opcodeTable_pairwise_conflict.forall hr hr' hne
  exact OpcodeRow.not_conflict_of_hits r r' f code h h' hc

end Sys2Proof

namespace Sys2Proof.Machine

/-! ## The pulse Word (30_encoding.md R85, R87) -/

/-- A packed Word is its colours side by side, with a padding of 0. -/
theorem packWord_eq_append (g r b : BitVec 8) : packWord g r b = g ++ r ++ b ++ 0#8 := by
  apply BitVec.eq_of_getLsbD_eq
  intro i hi
  simp only [packWord, BitVec.getLsbD_or, BitVec.getLsbD_shiftLeft, BitVec.truncate_eq_setWidth,
    BitVec.getLsbD_setWidth, BitVec.getLsbD_append, BitVec.getLsbD_zero, hi, decide_true, Bool.true_and]
  interval_cases i <;> simp

/-- The bits of a colour in the order they are sent, MSB first. -/
def colourBits (c : BitVec 8) : List Bool := (List.range 8).map fun i => c.getLsbD (7 - i)

/-- Eight bits of a Word from place `31 - k` down are the byte they make up, MSB first. -/
theorem bits_of_byte (w : Word) (k : Nat) (hk : k ≤ 24) :
    (List.range 8).map (fun i => w.getLsbD (31 - (k + i))) = colourBits (w.extractLsb' (24 - k) 8) := by
  refine List.map_congr_left fun i hi => ?_
  rw [List.mem_range] at hi
  have hplace : 24 - k + (7 - i) = 31 - (k + i) := by omega
  have hin : 7 - i < 8 := by omega
  simp only [BitVec.getLsbD_extractLsb', hin, decide_true, Bool.true_and, hplace]

/-- The payload of a Word is its green, its red and its blue (20_memory.md R65). -/
theorem payload_eq_colours (w : Word) :
    payload w = colourBits (wordGreen w) ++ colourBits (wordRed w) ++ colourBits (wordBlue w) := by
  have hrange : List.range 24 =
      (List.range 8).map (0 + ·) ++ (List.range 8).map (8 + ·) ++ (List.range 8).map (16 + ·) := by decide
  rw [payload, Config.payloadBits, hrange, List.map_append, List.map_append, List.map_map, List.map_map, List.map_map]
  exact congrArg₂ _ (congrArg₂ _ (bits_of_byte w 0 (by decide)) (bits_of_byte w 8 (by decide)))
    (bits_of_byte w 16 (by decide))

@[simp] theorem wordGreen_packWord (g r b : BitVec 8) : wordGreen (packWord g r b) = g := by
  rw [packWord_eq_append, wordGreen, BitVec.extractLsb'_append_eq_of_le (by decide),
    BitVec.extractLsb'_append_eq_of_le (by decide), BitVec.extractLsb'_append_eq_left]

@[simp] theorem wordRed_packWord (g r b : BitVec 8) : wordRed (packWord g r b) = r := by
  rw [packWord_eq_append, wordRed, BitVec.extractLsb'_append_eq_of_le (by decide),
    BitVec.extractLsb'_append_eq_of_le (by decide), BitVec.extractLsb'_append_eq_right]

@[simp] theorem wordBlue_packWord (g r b : BitVec 8) : wordBlue (packWord g r b) = b := by
  rw [packWord_eq_append, wordBlue, BitVec.extractLsb'_append_eq_of_le (by decide), BitVec.extractLsb'_append_eq_right]

@[simp] theorem wordPad_packWord (g r b : BitVec 8) : wordPad (packWord g r b) = 0#8 := by
  rw [packWord_eq_append, wordPad, BitVec.extractLsb'_append_eq_right]

/-! ## The pulse fetch, case by case (41_pulse_encoder.md R121) -/

theorem execPulseFetch_of_bit (s : State) (h : s.bitsLeft ≠ 0#5) :
    execPulseFetch s = .next (takeBit (s.setPulseOut false)) :=
  if_neg h

theorem execPulseFetch_of_word (s : State) (w : Word) (rest : List Word) (h : s.bitsLeft = 0#5)
    (hq : s.q = w :: rest) :
    execPulseFetch s = .next (takeBit (loadWord w ((s.setPulseOut false).setQ rest))) := by
  simp [execPulseFetch, h, level, withDequeued, hq]

theorem execPulseFetch_of_stall (s : State) (h : s.bitsLeft = 0#5) (hq : s.q = []) :
    execPulseFetch s = .next (s.setPulseOut false) := by
  simp [execPulseFetch, h, level, hq]

/-! ## States whose lines agree: they differ in bits that are never sent (30_encoding.md R85) -/

/-- Two Words agree in their `k` top bits, the next `k` to be sent. -/
def SameTopBits (k : Nat) (w w' : Word) : Prop := ∀ i < k, w.getMsbD i = w'.getMsbD i

/-- Two Words with the same payload, whatever their padding. -/
def SamePayload (w w' : Word) : Prop := w >>> 8 = w' >>> 8

theorem SamePayload.sameTopBits {w w' : Word} (h : SamePayload w w') : SameTopBits 24 w w' := by
  intro i hi
  have hbit : (w >>> 8).getMsbD (i + 8) = (w' >>> 8).getMsbD (i + 8) := by rw [h]
  have hin : i + 8 < 32 := by omega
  simpa only [BitVec.getMsbD_ushiftRight, hin, decide_true, Bool.true_and, Nat.not_lt.2 (Nat.le_add_left 8 i),
    decide_false, Bool.not_false, Nat.add_sub_cancel] using hbit

/-- Taking a bit leaves one fewer to agree in. -/
theorem SameTopBits.shiftLeft_one {k : Nat} {w w' : Word} (h : SameTopBits (k + 1) w w') :
    SameTopBits k (w <<< 1) (w' <<< 1) := by
  intro i hi
  rw [BitVec.getMsbD_shiftLeft, BitVec.getMsbD_shiftLeft]
  exact h (i + 1) (Nat.succ_lt_succ hi)

theorem nextPayloadBit_eq_getMsbD (w : Word) : nextPayloadBit w = w.getMsbD 0 := by
  rw [BitVec.getMsbD_eq_getLsbD]
  rfl

/-- Two states that agree but for the padding of the Words in the Channel and for the bits of `OSR` that are not left
to send. -/
def SameLine (s s' : State) : Prop :=
  ∃ q' osr', s' = { s with q := q', osr := osr' } ∧ List.Forall₂ SamePayload s.q q' ∧
    SameTopBits s.bitsLeft.toNat s.osr osr'

theorem SameLine.mode {s s' : State} (h : SameLine s s') : s'.mode = s.mode := by
  obtain ⟨q', osr', rfl, -, -⟩ := h
  rfl

theorem SameLine.t {s s' : State} (h : SameLine s s') : s'.t = s.t := by
  obtain ⟨q', osr', rfl, -, -⟩ := h
  rfl

theorem SameLine.cur {s s' : State} (h : SameLine s s') : s'.cur = s.cur := by
  obtain ⟨q', osr', rfl, -, -⟩ := h
  rfl

theorem SameLine.pulseOut {s s' : State} (h : SameLine s s') : s'.pulseOut = s.pulseOut := by
  obtain ⟨q', osr', rfl, -, -⟩ := h
  rfl

theorem SameLine.setPulseOut {s s' : State} (h : SameLine s s') (v : Bool) :
    SameLine (s.setPulseOut v) (s'.setPulseOut v) := by
  obtain ⟨q', osr', rfl, hq, hosr⟩ := h
  exact ⟨q', osr', rfl, hq, hosr⟩

theorem SameLine.setT {s s' : State} (h : SameLine s s') (p : BitVec 3) : SameLine (s.setT p) (s'.setT p) := by
  obtain ⟨q', osr', rfl, hq, hosr⟩ := h
  exact ⟨q', osr', rfl, hq, hosr⟩

theorem SameLine.takeBit {s s' : State} (h : SameLine s s') (hb : s.bitsLeft ≠ 0#5) :
    SameLine (takeBit s) (takeBit s') := by
  obtain ⟨q', osr', rfl, hq, hosr⟩ := h
  have hk : s.bitsLeft.toNat = (s.bitsLeft - 1#5).toNat + 1 := by bv_omega
  rw [hk] at hosr
  have hbit : nextPayloadBit osr' = nextPayloadBit s.osr := by
    rw [nextPayloadBit_eq_getMsbD, nextPayloadBit_eq_getMsbD, hosr 0 (Nat.succ_pos _)]
  refine ⟨q', osr' <<< 1, ?_, hq, hosr.shiftLeft_one⟩
  simp only [takeBit_eq, hbit]

theorem SameLine.loadWord {s s' : State} (h : SameLine s s') {w w' : Word} {rest rest' : List Word}
    (hw : SamePayload w w') (hrest : List.Forall₂ SamePayload rest rest') :
    SameLine (loadWord w (s.setQ rest)) (loadWord w' (s'.setQ rest')) := by
  obtain ⟨q', osr', rfl, -, -⟩ := h
  exact ⟨rest', w', rfl, hrest, hw.sameTopBits⟩

/-- Two answers of a tick that agree: states whose lines agree, or the same fault. -/
def SameAnswer (r r' : StepResult) : Prop :=
  (∃ t t', r = .next t ∧ r' = .next t' ∧ SameLine t t') ∨ (∃ f, r = .fault f ∧ r' = .fault f)

theorem SameLine.sameAnswer_driveLine {s s' : State} (h : SameLine s s') (v : Bool) (p : BitVec 3) :
    SameAnswer (driveLine v p s) (driveLine v p s') :=
  .inl ⟨_, _, rfl, rfl, (h.setPulseOut v).setT p⟩

theorem SameLine.sameAnswer_execPulseFetch {s s' : State} (h : SameLine s s') :
    SameAnswer (execPulseFetch s) (execPulseFetch s') := by
  have hlow := h.setPulseOut false
  obtain ⟨q', osr', rfl, hq, -⟩ := h
  by_cases hb : s.bitsLeft = 0#5
  · cases hs : s.q with
    | nil =>
      rw [hs, List.forall₂_nil_left_iff] at hq
      exact .inl ⟨_, _, execPulseFetch_of_stall s hb hs, execPulseFetch_of_stall _ hb hq, hlow⟩
    | cons w rest =>
      rw [hs] at hq
      obtain ⟨w', rest', hw, hrest, hs'⟩ := List.forall₂_cons_left_iff.1 hq
      exact .inl ⟨_, _, execPulseFetch_of_word s w rest hb hs, execPulseFetch_of_word _ w' rest' hb hs',
        (hlow.loadWord hw hrest).takeBit (by simp [loadWord_eq])⟩
  · exact .inl ⟨_, _, execPulseFetch_of_bit s hb, execPulseFetch_of_bit _ hb, hlow.takeBit hb⟩

theorem SameLine.sameAnswer_tick {s s' : State} (h : SameLine s s') (hm : s.mode = 0b00#2) :
    SameAnswer (tick s) (tick s') := by
  rw [tick_pulse s hm, tick_pulse s' (h.mode.trans hm), h.t]
  unfold decodePulse
  split_ifs
  · exact h.sameAnswer_execPulseFetch
  · exact h.sameAnswer_driveLine true 2#3
  · exact h.sameAnswer_driveLine true 3#3
  · simp only [exec, execPulseData0, h.cur]
    exact h.sameAnswer_driveLine s.cur 4#3
  · simp only [exec, execPulseData1, h.cur]
    exact h.sameAnswer_driveLine s.cur 5#3
  · exact h.sameAnswer_driveLine false 0#3
  · exact .inr ⟨_, rfl, rfl⟩

theorem SameLine.lineTrace_eq (n : Nat) {s s' : State} (h : SameLine s s') (hm : s.mode = 0b00#2) :
    lineTrace n s' = lineTrace n s := by
  induction n generalizing s s' with
  | zero => rfl
  | succ n ih =>
    obtain ⟨t, t', ht, ht', hline⟩ | ⟨f, hf, hf'⟩ := h.sameAnswer_tick hm
    · have hmode : t.mode = 0b00#2 := (congrArg State.mode (tick_writes s t ht)).trans hm
      have htail := ih hline hmode
      simp only [lineTrace, tickTrace, ht, ht', hline.pulseOut] at htail ⊢
      rw [htail]
    · simp only [lineTrace, tickTrace, hf, hf']

end Sys2Proof.Machine

namespace Sys2Proof

/-! ## The word of an instruction and its bytes (log entry 11) -/

theorem extractLsb'_ofNat (w n start len : Nat) (h : start + len ≤ w) :
    (BitVec.ofNat w n).extractLsb' start len = BitVec.ofNat len (n / 2 ^ start) := by
  apply BitVec.eq_of_getLsbD_eq
  intro i hi
  have hin : start + i < w := by omega
  simp only [BitVec.getLsbD_extractLsb', BitVec.getLsbD_ofNat, Nat.testBit_div_two_pow, hi, hin, decide_true,
    Bool.true_and, Nat.add_comm i]

theorem natBytes_maxBytes (w : Nat) :
    natBytes maxBytes w = [BitVec.ofNat 8 w, BitVec.ofNat 8 (w / 256), BitVec.ofNat 8 (w / 65536),
      BitVec.ofNat 8 (w / 65536 / 256), BitVec.ofNat 8 (w / 65536 / 65536), BitVec.ofNat 8 (w / 65536 / 16777216)] := by
  simp [natBytes, maxBytes, Nat.div_div_eq_div_mul]

theorem dataOfBytes_ofNat (n : Nat) :
    dataOfBytes (BitVec.ofNat 8 n) (BitVec.ofNat 8 (n / 256)) (BitVec.ofNat 8 (n / 65536))
      (BitVec.ofNat 8 (n / 16777216)) = BitVec.ofNat 32 n := by
  have h := dataOfBytes_bytesOfData (BitVec.ofNat 32 n)
  simp (disch := decide) only [extractLsb'_ofNat] at h
  simpa using h

theorem hostacc_of_word (w : Nat) :
    ((BitVec.ofNat 8 (w / 256)).extractLsb' 0 1 ++ BitVec.ofNat 8 w : BitVec 9) = BitVec.ofNat 9 w := by
  have h := hostacc_of_high_low (BitVec.ofNat 9 w)
  simp (disch := decide) only [extractLsb'_ofNat] at h
  rw [extractLsb'_ofNat 8 _ 0 1 (by decide)]
  simpa using h

/-- A `HOSTACC` with no bit set above its 9. -/
theorem word_lt_of_high_bits (w : Nat) (h : (BitVec.ofNat 8 (w / 256)).extractLsb' 1 7 = 0#7) : w % 65536 < 512 := by
  rw [extractLsb'_ofNat 8 _ 1 7 (by decide)] at h
  have hnat : w / 256 / 2 ^ 1 % 2 ^ 7 = 0 := congrArg BitVec.toNat h
  omega

/-- A read takes no DATA (30_encoding.md R80). -/
theorem decodeHostacc_of_read (acc : BitVec 9) (data data' : Word) (h : hostaccW acc = false) :
    decodeHostacc acc data = decodeHostacc acc data' := by
  simp only [decodeHostacc, decodeAccess, h, Bool.false_eq_true, if_false]

theorem decodeBytes_of_hostacc_word (w : Nat) (i : Instr) (rest : List Byte)
    (h : decodeBytes .hostacc (natBytes maxBytes w) = .ok (i, rest)) :
    w % 65536 < 512 ∧ decodeHostacc (BitVec.ofNat 9 w) (BitVec.ofNat 32 (w / 65536)) = i := by
  simp only [natBytes_maxBytes, decodeBytes, hostacc_of_word, dataOfBytes_ofNat] at h
  split_ifs at h with hhigh hw
  · cases h
    exact ⟨word_lt_of_high_bits w hhigh, rfl⟩
  · cases h
    exact ⟨word_lt_of_high_bits w hhigh, decodeHostacc_of_read _ _ _ (by simpa using hw)⟩

theorem decodeBytes_of_ustate_word (w : Nat) (i : Instr) (rest : List Byte)
    (h : decodeBytes .ustate (natBytes maxBytes w) = .ok (i, rest)) : decodeUstate (BitVec.ofNat 5 w) = i := by
  have hcode : (BitVec.ofNat 8 w).extractLsb' 0 5 = BitVec.ofNat 5 w := by
    rw [extractLsb'_ofNat 8 w 0 5 (by decide), pow_zero, Nat.div_one]
  simp only [natBytes_maxBytes, decodeBytes, hcode] at h
  split_ifs at h
  cases h
  rfl

theorem decodeBytes_of_decodeTableWord (nbits w : Nat) (i : Instr) (h : decodeTableWord nbits w = some i) :
    ∃ rest, decodeBytes (formatOfWidth nbits) (natBytes maxBytes w) = .ok (i, rest) := by
  unfold decodeTableWord at h
  split at h
  · split at h
    · rename_i j rest heq
      cases h
      exact ⟨rest, heq⟩
    · cases h
  · cases h

/-- A word of 16 bits and its DATA is a `HOSTACC` with nothing above its 9 bits. -/
theorem decodeTableWord_hostacc (w : Nat) (i : Instr) (h : decodeTableWord 16 w = some i) :
    w % 65536 < 512 ∧ decodeHostacc (BitVec.ofNat 9 w) (BitVec.ofNat 32 (w / 65536)) = i := by
  obtain ⟨rest, hbytes⟩ := decodeBytes_of_decodeTableWord 16 w i h
  exact decodeBytes_of_hostacc_word w i rest hbytes

theorem decodeTableWord_ustate (w : Nat) (i : Instr) (h : decodeTableWord 8 w = some i) :
    decodeUstate (BitVec.ofNat 5 w) = i := by
  obtain ⟨rest, hbytes⟩ := decodeBytes_of_decodeTableWord 8 w i h
  exact decodeBytes_of_ustate_word w i rest hbytes

theorem ustateMode_ofNat (w : Nat) : ustateMode (BitVec.ofNat 5 w) = BitVec.ofNat 2 (w / 8) :=
  extractLsb'_ofNat 5 w 3 2 (by decide)

theorem ustateT_ofNat (w : Nat) : ustateT (BitVec.ofNat 5 w) = BitVec.ofNat 3 w := by
  rw [ustateT, extractLsb'_ofNat 5 w 0 3 (by decide), pow_zero, Nat.div_one]

end Sys2Proof

namespace Sys2Proof.Machine

/-! ## A placed code (log entry 11) -/

theorem withFetchWord_hostacc (s : State) (w : Nat) :
    s.withFetchWord 16 w =
      (s.setRefused false).setInputs (.access (BitVec.ofNat 9 w) (BitVec.ofNat 32 (w / 65536)) :: s.inputs) := rfl

theorem withFetchWord_ustate (s : State) (w : Nat) :
    s.withFetchWord 8 w =
      ((placeSequencer (BitVec.ofNat 5 w) s).setRefused false).setInputs (.sysclk :: s.inputs) := rfl

/-- The step with a clock edge next is the SYSCLK agent's. -/
theorem step_of_sysclk (s : State) (rest : List Input) (hr : s.refused = false) (h : s.inputs = .sysclk :: rest) :
    step s = sysclkTurn (s.setInputs rest) := by
  simp [step, stepAgents, hr, nextEnabled, takeInput_cons s _ rest h]

theorem sysclkTurn_of_tick (s : State) (hd : dataOk s = true) (ht : tickDue s = true) :
    sysclkTurn s = tick (s.setDivcnt 0#16) := by
  obtain ⟨hen, hcnt⟩ : s.en = true ∧ s.divcnt = s.div - 1#16 := by simpa [tickDue] using ht
  simp [sysclkTurn, hd, ht, sysclk, hen, hcnt]

/-- The clauses of `dataOk` about the sequencer: R41 (6) to (8). -/
def payloadClausesOk (s : State) : Bool := bitsLeftOk s && zeroFillOk s && parallelIdleOk s

theorem dataOk_iff (s : State) :
    dataOk s = true ↔ dividerOk s = true ∧ channelOk s = true ∧ payloadClausesOk s = true := by
  simp [dataOk, payloadClausesOk, and_assoc]

/-- A sequencer just cleared meets the clauses in every MODE, the illegal one included. -/
theorem dataOk_changeMode (m : BitVec 2) (s : State) (h : dataOk s = true) : dataOk (changeMode m s) = true := by
  obtain ⟨hdiv, hq, -⟩ := (dataOk_iff s).1 h
  exact (dataOk_iff _).2 ⟨hdiv, hq, by simp [payloadClausesOk, bitsLeftOk, zeroFillOk, parallelIdleOk]⟩

/-- The sequencer of a state, enabled and put at `T` = `p`, with its next tick at the next clock edge. -/
def putAt (p : BitVec 3) (s : State) : State := ((s.setT p).setEn true).setDivcnt (s.div - 1#16)

theorem dataOk_putAt (p : BitVec 3) (s : State) (h : dataOk s = true) : dataOk (putAt p s) = true := by
  obtain ⟨hdivider, hq, hpay⟩ := (dataOk_iff s).1 h
  obtain ⟨hdiv, -⟩ := (dividerOk_iff s).1 hdivider
  refine (dataOk_iff _).2 ⟨(dividerOk_iff _).2 ⟨hdiv, ?_⟩, hq, hpay⟩
  simp only [putAt, State.setDivcnt_divcnt, State.setDivcnt_div, State.setEn_div, State.setT_div]
  bv_omega

theorem tickDue_putAt (p : BitVec 3) (s : State) : tickDue (putAt p s) = true := by
  simp [tickDue, putAt]

theorem placeSequencer_same_mode (u : BitVec 5) (s : State) (h : ustateMode u = s.mode) :
    placeSequencer u s = putAt (ustateT u) s := by
  simp [placeSequencer, putAt, h]

theorem placeSequencer_new_mode (u : BitVec 5) (s : State) (h : ustateMode u ≠ s.mode) :
    placeSequencer u s = putAt (ustateT u) (changeMode (ustateMode u) s) := by
  simp [placeSequencer, putAt, h]

/-- From a state put at a position, the next clock edge is the tick of that position. -/
theorem step_putAt (p : BitVec 3) (s : State) (rest : List Input) (h : dataOk s = true) :
    step (((putAt p s).setRefused false).setInputs (.sysclk :: rest)) =
      exec (decodeUstate (ustateOf s.mode p))
        { s with t := p, en := true, divcnt := 0#16, refused := false, inputs := rest } := by
  rw [step_of_sysclk _ rest rfl rfl]
  exact sysclkTurn_of_tick (((putAt p s).setRefused false).setInputs rest) (dataOk_putAt p s h) (tickDue_putAt p s)

theorem step_placed_hostacc (s : State) (w : Nat) (i : Instr) (hs : InvariantsHold s)
    (hi : decodeTableWord 16 w = some i) (hheld : ¬ (w % 65536 = 0x148 ∧ s.q.length = s.depth)) :
    step (s.withFetchWord 16 w) = exec i { s with refused := false } := by
  obtain ⟨hlt, rfl⟩ := decodeTableWord_hostacc w i hi
  refine stepRunsTheHostOperation (s.withFetchWord 16 w) _ _ s.inputs ⟨rfl, hs⟩ rfl ?_
  rintro ⟨hcode, hfull⟩
  have hmod : w % 512 = 0x148 := congrArg BitVec.toNat hcode
  exact hheld ⟨by omega, hfull⟩

theorem step_placed_ustate_same_mode (s : State) (w : Nat) (hs : dataOk s = true)
    (hm : BitVec.ofNat 2 (w / 8) = s.mode) :
    step (s.withFetchWord 8 w) =
      exec (decodeUstate (BitVec.ofNat 5 w))
        { s with t := BitVec.ofNat 3 w, en := true, divcnt := 0#16, refused := false } := by
  rw [← ustateMode_ofNat] at hm
  rw [withFetchWord_ustate, placeSequencer_same_mode _ s hm, step_putAt _ s s.inputs hs, ← hm, ustateOf_fields,
    ustateT_ofNat]

theorem step_placed_ustate_new_mode (s : State) (w : Nat) (hs : dataOk s = true)
    (hm : BitVec.ofNat 2 (w / 8) ≠ s.mode) :
    step (s.withFetchWord 8 w) =
      exec (decodeUstate (BitVec.ofNat 5 w))
        { changeMode (BitVec.ofNat 2 (w / 8)) s with
          t := BitVec.ofNat 3 w, en := true, divcnt := 0#16, refused := false } := by
  rw [← ustateMode_ofNat] at hm ⊢
  rw [withFetchWord_ustate, placeSequencer_new_mode _ s hm, step_putAt _ _ s.inputs (dataOk_changeMode _ s hs),
    changeMode_mode, ustateOf_fields, ustateT_ofNat]
  rfl

end Sys2Proof.Machine

/-- Settles O55: the layout in bytes gives the code back, and the code its instruction. -/
theorem decodeOfEncodeIsTheInstruction : Obligations.DecodeOfEncodeIsTheInstruction := by
  intro i rest h
  obtain ⟨size, a, off, hcode, hdecode⟩ | ⟨u, hcode, hdecode⟩ := encoded_of_wf i h
  · have hformat : (encodeAccess size a off).format = .hostacc := by cases a <;> rfl
    rw [encode, hcode, hformat, decodeBytes_of_access, hdecode]
  · rw [encode, hcode, Code.format, decodeBytes_of_ustate, hdecode]

/-- Settles O56: case split on the fields of a `HOSTACC`; the 32 `USTATE` codes are checked one by one. -/
theorem everyCodeIsTheCodeOfItsInstruction : Obligations.EveryCodeIsTheCodeOfItsInstruction :=
  ⟨decodeHostacc_wf_and_encode, fun u => ⟨decodeUstate_wf u, encodeCode_decodeUstate u⟩⟩

/-- Settles O57: the rows of the table conflict pairwise, so a code is of the row of its own instruction only. -/
theorem everyCodeMatchesExactlyOneRow : Obligations.EveryCodeMatchesExactlyOneRow := by
  refine ⟨by decide, opcodeTable_pairwise_conflict.imp (OpcodeRow.ne_of_conflict _ _),
    fun acc data => row_mem_opcodeTable _, fun u => row_mem_opcodeTable _,
    fun acc data r hr => ⟨fun h => ?_, ?_⟩, fun u r hr => ⟨fun h => ?_, ?_⟩⟩
  · exact opcodeTable_hits_unique r _ _ _ hr (row_mem_opcodeTable _) h (row_hits_hostacc acc data)
  · rintro rfl
    exact row_hits_hostacc acc data
  · exact opcodeTable_hits_unique r _ _ _ hr (row_mem_opcodeTable _) h (row_hits_ustate u)
  · rintro rfl
    exact row_hits_ustate u

/-- Settles O58: each word is evaluated. -/
theorem writtenOutCodesDecode : Obligations.WrittenOutCodesDecode := by
  unfold Obligations.WrittenOutCodesDecode
  decide

/-- Settles O59: a packed Word is its colours and the padding side by side, and its payload the three colours. -/
theorem packedWordSendsGreenRedBlue : Obligations.PackedWordSendsGreenRedBlue := by
  intro g r b
  refine ⟨wordGreen_packWord g r b, wordRed_packWord g r b, wordBlue_packWord g r b, wordPad_packWord g r b, ?_⟩
  rw [payload_eq_colours, wordGreen_packWord, wordRed_packWord, wordBlue_packWord]
  rfl

/-- Settles O30: the two runs agree, at every tick, but for bits that are never sent; the bound on `BITS_LEFT`
is not needed. -/
theorem paddingNeverReachesTheLine : Obligations.PaddingNeverReachesTheLine := by
  intro n s q' hm _ hq
  have hline : SameLine s { s with q := q' } := ⟨q', s.osr, rfl, hq, fun _ _ => rfl⟩
  exact hline.lineTrace_eq n hm

/-- Settles O41: a placed `HOSTACC` is the next input and does not hold; a placed `USTATE` is the position of a tick
that is due, in a state that meets the clauses a tick relies on. -/
theorem placedWordRunsNext : Obligations.PlacedWordRunsNext := by
  intro s hs
  refine ⟨fun w i hi hheld => step_placed_hostacc s w i hs hi hheld, fun w i hi => ?_⟩
  obtain ⟨hdata, -⟩ : dataOk s = true ∧ positionOk s = true := by
    simpa [InvariantsHold, invariantsOk] using hs
  rw [← decodeTableWord_ustate w i hi]
  by_cases hm : BitVec.ofNat 2 (w / 8) = s.mode
  · rw [step_placed_ustate_same_mode s w hdata hm]
    simp only [hm, if_true]
  · rw [step_placed_ustate_new_mode s w hdata hm]
    simp only [hm, if_false]
    rfl

end

section
/-! The statements about the clock divider and the bit timer (40_clock_divider.md): which steps are ticks, what a tick
runs, where it leaves `T`, and how long a held push waits. -/

open Sys2Proof Sys2Proof.Machine Sys2Proof.Safety

namespace Sys2Proof.Machine

/-! ## A SYSCLK step, case by case (40_clock_divider.md R101, R102) -/

theorem sysclk_of_disabled (s : State) (h : s.en = false) : sysclk s = .next s := by
  simp [sysclk, h]

theorem sysclk_of_tick (s : State) (h : s.en = true) (hd : s.divcnt = s.div - 1#16) :
    sysclk s = tick (s.setDivcnt 0#16) := by
  simp [sysclk, h, hd]

theorem sysclk_of_count (s : State) (h : s.en = true) (hd : s.divcnt ≠ s.div - 1#16) :
    sysclk s = .next (s.setDivcnt (s.divcnt + 1#16)) := by
  simp [sysclk, h, hd]

/-- The two parts of R41 that a SYSCLK step checks. -/
theorem dataOk_and_positionOk (s : State) (h : InvariantsHold s) : dataOk s = true ∧ positionOk s = true := by
  simpa [InvariantsHold, invariantsOk] using h

/-- Within the invariants the SYSCLK agent's step is the SYSCLK step. -/
theorem sysclkTurn_of_invariants (s : State) (h : InvariantsHold s) : sysclkTurn s = sysclk s := by
  obtain ⟨hdata, hpos⟩ := dataOk_and_positionOk s h
  simp [sysclkTurn, hdata, hpos]

/-! ## The positions of the sequencer -/

theorem mode_cases (m : BitVec 2) : m = 0b00#2 ∨ m = 0b01#2 ∨ m = 0b10#2 ∨ m = 0b11#2 := by
  revert m; decide

theorem timer_cases (t : BitVec 3) :
    t = 0#3 ∨ t = 1#3 ∨ t = 2#3 ∨ t = 3#3 ∨ t = 4#3 ∨ t = 5#3 ∨ t = 6#3 ∨ t = 7#3 := by
  revert t; decide

/-- The twelve positions of 10_state.md R23 and R26. -/
theorem positionOk_cases (s : State) (h : positionOk s = true) :
    (s.mode = 0b00#2 ∧ (s.t = 0#3 ∨ s.t = 1#3 ∨ s.t = 2#3 ∨ s.t = 3#3 ∨ s.t = 4#3 ∨ s.t = 5#3)) ∨
    (s.mode = 0b01#2 ∧ (s.t = 0#3 ∨ s.t = 1#3)) ∨
    (s.mode = 0b10#2 ∧ (s.t = 0#3 ∨ s.t = 1#3 ∨ s.t = 2#3 ∨ s.t = 3#3)) := by
  unfold positionOk at h
  generalize s.mode = m at *
  generalize s.t = t at *
  revert m t
  decide

/-! ## Where a tick leaves the bit timer (40_clock_divider.md R104) -/

theorem execPulseFetch_t (s t : State) (h : execPulseFetch s = .next t) :
    t.t = 1#3 ∨ (t.t = s.t ∧ s.q = [] ∧ s.bitsLeft = 0#5) := by
  obtain ⟨-, rfl⟩ | ⟨w, rest, -, -, rfl⟩ | ⟨hb, hq, rfl⟩ := execPulseFetch_cases s t h
  · exact .inl rfl
  · exact .inl rfl
  · exact .inr ⟨rfl, hq, hb⟩

theorem fetchParallel_t (s t : State) (h : fetchParallel s = .next t) : t.t = 1#3 ∨ (t.t = s.t ∧ s.q = []) := by
  obtain ⟨w, rest, -, rfl⟩ | ⟨hq, rfl⟩ := fetchParallel_cases s t h
  · exact .inl rfl
  · exact .inr ⟨rfl, hq⟩

/-- A tick moves `T` on, or is a fetch that finds nothing to send. -/
theorem tick_t (s t : State) (h : tick s = .next t) :
    t.t = nextT s.mode s.t ∨
      (s.t = 0#3 ∧ t.t = 0#3 ∧ s.q = [] ∧ (s.mode = 0b00#2 → s.bitsLeft = 0#5)) := by
  rcases tick_cases s t h with ⟨hm, hp⟩ | ⟨hm, hc⟩ | ⟨hm, hs⟩ <;> rw [hm]
  · rcases hp with ⟨ht, hf⟩ | ⟨ht, rfl⟩ | ⟨ht, rfl⟩ | ⟨ht, rfl⟩ | ⟨ht, rfl⟩ | ⟨ht, rfl⟩ <;> rw [ht]
    · obtain hnext | ⟨hstay, hq, hb⟩ := execPulseFetch_t s t hf
      · exact .inl hnext
      · exact .inr ⟨rfl, hstay.trans ht, hq, fun _ => hb⟩
    all_goals exact .inl rfl
  · rcases hc with ⟨ht, hf⟩ | ⟨ht, rfl⟩ <;> rw [ht]
    · obtain hnext | ⟨hstay, hq⟩ := fetchParallel_t s t hf
      · exact .inl hnext
      · exact .inr ⟨rfl, hstay.trans ht, hq, by simp⟩
    · exact .inl rfl
  · rcases hs with ⟨ht, hf⟩ | ⟨ht, rfl⟩ | ⟨ht, rfl⟩ | ⟨ht, rfl⟩ <;> rw [ht]
    · obtain hnext | ⟨hstay, hq⟩ := fetchParallel_t s t hf
      · exact .inl hnext
      · exact .inr ⟨rfl, hstay.trans ht, hq, by simp⟩
    all_goals exact .inl rfl

/-! ## Ticks answer -/

theorem execPulseFetch_answers (s : State) :
    ∃ t : State, ∀ is, execPulseFetch (s.setInputs is) = .next (t.setInputs is) := by
  by_cases hb : s.bitsLeft = 0#5
  · rcases hq : s.q with _ | ⟨w, rest⟩
    · exact ⟨s.setPulseOut false, fun is => execPulseFetch_of_stall (s.setInputs is) hb hq⟩
    · exact ⟨takeBit (loadWord w ((s.setPulseOut false).setQ rest)),
        fun is => execPulseFetch_of_word (s.setInputs is) w rest hb hq⟩
  · exact ⟨takeBit (s.setPulseOut false), fun is => execPulseFetch_of_bit (s.setInputs is) hb⟩

theorem fetchParallel_of_word (s : State) (w : Word) (rest : List Word) (hq : s.q = w :: rest) :
    fetchParallel s = .next ((((s.setParClk false).setQ rest).setOsr w).setT 1#3) := by
  simp [fetchParallel, level, withDequeued, hq]

theorem fetchParallel_of_stall (s : State) (hq : s.q = []) : fetchParallel s = .next (s.setParClk false) := by
  simp [fetchParallel, level, hq]

theorem fetchParallel_answers (s : State) :
    ∃ t : State, ∀ is, fetchParallel (s.setInputs is) = .next (t.setInputs is) := by
  rcases hq : s.q with _ | ⟨w, rest⟩
  · exact ⟨s.setParClk false, fun is => fetchParallel_of_stall (s.setInputs is) hq⟩
  · exact ⟨(((s.setParClk false).setQ rest).setOsr w).setT 1#3,
      fun is => fetchParallel_of_word (s.setInputs is) w rest hq⟩

/-- A tick at one of the twelve positions answers, and neither reads nor writes the inputs. -/
theorem tick_answers (s : State) (h : positionOk s = true) :
    ∃ t : State, ∀ is, tick (s.setInputs is) = .next (t.setInputs is) := by
  rcases positionOk_cases s h with ⟨hm, ht⟩ | ⟨hm, ht⟩ | ⟨hm, ht⟩
  · simp only [fun is => tick_pulse (s.setInputs is) hm, State.setInputs_t]
    rcases ht with ht | ht | ht | ht | ht | ht <;> rw [ht]
    · exact execPulseFetch_answers s
    · exact ⟨(s.setPulseOut true).setT 2#3, fun _ => rfl⟩
    · exact ⟨(s.setPulseOut true).setT 3#3, fun _ => rfl⟩
    · exact ⟨(s.setPulseOut s.cur).setT 4#3, fun _ => rfl⟩
    · exact ⟨(s.setPulseOut s.cur).setT 5#3, fun _ => rfl⟩
    · exact ⟨(s.setPulseOut false).setT 0#3, fun _ => rfl⟩
  · simp only [fun is => tick_parc (s.setInputs is) hm, State.setInputs_t]
    rcases ht with ht | ht <;> rw [ht]
    · exact fetchParallel_answers s
    · exact ⟨((s.setParD (parallelData s.osr)).setParClk true).setT 0#3, fun _ => rfl⟩
  · simp only [fun is => tick_pars (s.setInputs is) hm, State.setInputs_t]
    rcases ht with ht | ht | ht | ht <;> rw [ht]
    · exact fetchParallel_answers s
    · exact ⟨((s.setParD (parallelData s.osr)).setParClk false).setT 2#3, fun _ => rfl⟩
    · exact ⟨(s.setParClk true).setT 3#3, fun _ => rfl⟩
    · exact ⟨(s.setParClk true).setT 0#3, fun _ => rfl⟩

/-! ## What a tick keeps -/

/-- A tick keeps what a claim may rely on. -/
theorem tick_keeps_live (s t : State) (hs : Live s) (h : tick s = .next t) : Live t := by
  obtain ⟨hr, hinv⟩ := hs
  obtain ⟨hd, hq, hseq⟩ := (invariantsOk_iff s).1 hinv
  have hrt : t.refused = s.refused := (congrArg State.refused (tick_writes s t h) :)
  exact ⟨hrt.trans hr, (invariantsOk_iff t).2
    ⟨tick_keeps_divider s t hd h, tick_keeps_channel s t hq h, tick_keeps_sequencer s t hseq h⟩⟩

/-- What a tick does not write, of the divider and the model's own fields. -/
theorem tick_control (s t : State) (h : tick s = .next t) :
    t.en = s.en ∧ t.mode = s.mode ∧ t.div = s.div ∧ t.divcnt = s.divcnt ∧ t.inputs = s.inputs := by
  rw [tick_writes s t h]
  exact ⟨rfl, rfl, rfl, rfl, rfl⟩

/-! ## Runs -/

/-- A run goes on from the state its first steps reach. -/
theorem run_add (m n : Nat) :
    ∀ s u : State, Host.Core.run core m s = .next u → Host.Core.run core (m + n) s = Host.Core.run core n u := by
  induction m with
  | zero =>
    intro s u h
    cases h
    rw [Nat.zero_add]
  | succ m ih =>
    intro s u h
    rw [Nat.succ_add]
    rcases hone : step s with v | f | r <;>
      simp only [Host.Core.run, show core.step s = step s from rfl, hone] at h ⊢
    · exact ih v u h
    · cases h
    · cases h

/-- A run of one step. -/
theorem run_one (s u : State) (h : step s = .next u) : Host.Core.run core 1 s = .next u := by
  simp only [Host.Core.run, show core.step s = step s from rfl, h]

theorem ticks_succ (k : Nat) (s t : State) (h : tick s = .next t) : ticks (k + 1) s = ticks k t := by
  simp only [ticks, h]

/-! ## Runs of clock edges (40_clock_divider.md R106) -/

/-- With the inputs `pre` in front the HOST agent has no enabled step: there is none in front, or a push that a full
Channel holds (00_scope.md R8, log entry 3). -/
def HostWaits (pre : List Input) (s : State) : Prop :=
  pre = [] ∨ ∃ data, pre = [.access 0x148#9 data] ∧ s.q.length = s.depth

/-- While the HOST agent waits, the next clock edge is the SYSCLK step, and what waits stays in front. -/
theorem step_of_edge (s : State) (pre rest : List Input) (hs : Live s) (hw : HostWaits pre s)
    (hin : s.inputs = pre ++ .sysclk :: rest) : step s = sysclk (s.setInputs (pre ++ rest)) := by
  obtain ⟨hr, hinv⟩ := hs
  have hstep : step s = sysclkTurn (s.setInputs (pre ++ rest)) := by
    obtain rfl | ⟨data, rfl, hq⟩ := hw
    · exact step_of_sysclk s rest hr hin
    · have hn := nextEnabled_of_held s data [] rest .sysclk hq (by simp) (.inl rfl) hin
      simp [step, stepAgents, hr, hn]
  rw [hstep]
  exact sysclkTurn_of_invariants (s.setInputs (pre ++ rest)) hinv

/-- The invariants ask no more of `DIVCNT` than to be below `DIV`, and nothing of the inputs. -/
theorem live_setDivcnt (s : State) (is : List Input) (v : BitVec 16) (hs : Live s) (hv : v.toNat < s.div.toNat) :
    Live ((s.setInputs is).setDivcnt v) := by
  obtain ⟨hr, hinv⟩ := hs
  obtain ⟨hd, hq, hseq⟩ := (invariantsOk_iff s).1 hinv
  obtain ⟨hdiv, -⟩ := (dividerOk_iff s).1 hd
  exact ⟨hr, (invariantsOk_iff _).2 ⟨(dividerOk_iff _).2 ⟨hdiv, hv⟩, hq, hseq⟩⟩

/-- Clock edges before the divider fires only count. -/
theorem run_count (pre rest : List Input) (n : Nat) : ∀ s : State, Live s → s.en = true → HostWaits pre s →
    s.inputs = pre ++ (List.replicate n .sysclk ++ rest) → s.divcnt.toNat + n < s.div.toNat →
    Host.Core.run core n s = .next ((s.setInputs (pre ++ rest)).setDivcnt (s.divcnt + BitVec.ofNat 16 n)) := by
  induction n with
  | zero =>
    intro s _ _ _ hin _
    have hrest : pre ++ rest = s.inputs := by simp [hin]
    have hzero : s.divcnt + BitVec.ofNat 16 0 = s.divcnt := BitVec.add_zero _
    rw [hrest, hzero]
    rfl
  | succ n ih =>
    intro s hs hen hw hin hlt
    have hcnt : (s.divcnt + 1#16).toNat = s.divcnt.toNat + 1 := by bv_omega
    have hne : s.divcnt ≠ s.div - 1#16 := by bv_omega
    have hstep : step s =
        .next ((s.setInputs (pre ++ (List.replicate n .sysclk ++ rest))).setDivcnt (s.divcnt + 1#16)) := by
      rw [step_of_edge s pre _ hs hw hin]
      exact sysclk_of_count (s.setInputs _) hen hne
    have hlive := live_setDivcnt s (pre ++ (List.replicate n .sysclk ++ rest)) (s.divcnt + 1#16) hs (by omega)
    have hsum : s.divcnt + 1#16 + BitVec.ofNat 16 n = s.divcnt + BitVec.ofNat 16 (1 + n) := by
      rw [BitVec.ofNat_add, BitVec.add_assoc]
    have hrest := ih _ hlive hen hw rfl (show (s.divcnt + 1#16).toNat + n < s.div.toNat by omega)
    rw [Nat.add_comm n 1, run_add 1 n s _ (run_one s _ hstep), hrest, ← hsum]
    rfl

/-- The clock edge at which the divider fires is a tick, and the divider starts again. -/
theorem run_to_tick (pre rest : List Input) (s t : State) (hs : Live s) (hen : s.en = true) (hw : HostWaits pre s)
    (hin : s.inputs = pre ++ (List.replicate (s.div.toNat - s.divcnt.toNat) .sysclk ++ rest))
    (htick : tick ((s.setDivcnt 0#16).setInputs (pre ++ rest)) = .next t) :
    Host.Core.run core (s.div.toNat - s.divcnt.toNat) s = .next t ∧
      Live t ∧ t.en = true ∧ t.div = s.div ∧ t.divcnt = 0#16 ∧ t.inputs = pre ++ rest := by
  obtain ⟨hd, -, -⟩ := (invariantsOk_iff s).1 hs.2
  obtain ⟨hdiv, hcnt⟩ := (dividerOk_iff s).1 hd
  refine ⟨?_, ?_⟩
  · obtain ⟨n, hn⟩ : ∃ n, s.div.toNat - s.divcnt.toNat = n + 1 := ⟨s.div.toNat - s.divcnt.toNat - 1, by omega⟩
    have hfires : s.divcnt + BitVec.ofNat 16 n = s.div - 1#16 := by bv_omega
    have hlt : (s.divcnt + BitVec.ofNat 16 n).toNat < s.div.toNat := by bv_omega
    rw [hn, List.replicate_succ', List.append_assoc] at hin
    have hcount := run_count pre (.sysclk :: rest) n s hs hen hw hin (by omega)
    have hlive := live_setDivcnt s (pre ++ .sysclk :: rest) _ hs hlt
    rw [hn, run_add n 1 s _ hcount]
    refine run_one _ t ?_
    rw [step_of_edge _ pre rest hlive hw rfl, ← htick]
    exact sysclk_of_tick _ hen hfires
  · have hlive : Live ((s.setDivcnt 0#16).setInputs (pre ++ rest)) := live_setDivcnt s (pre ++ rest) 0#16 hs hdiv
    obtain ⟨hen', -, hdiv', hcnt', hin'⟩ := tick_control _ t htick
    exact ⟨tick_keeps_live _ t hlive htick, hen'.trans hen, hdiv', hcnt', hin'⟩

/-! ## How long a held push waits (40_clock_divider.md R105) -/

/-- The ticks of one bit period in PULSE, of one transfer in the PAR modes (00_scope.md R4). -/
def cycleTicks (mode : BitVec 2) : Nat :=
  if mode = 0b00#2 then Config.bitTicks else if mode = 0b01#2 then Config.parcTicks else Config.parsTicks

/-- The ticks before the next fetch tick. -/
def ticksToFetch (mode : BitVec 2) (t : BitVec 3) : Nat := if t = 0#3 then 0 else cycleTicks mode - t.toNat

/-- The ticks up to the next Dequeue, it included, while there is a Word in the Channel: each payload bit left takes a
bit period before it. -/
def ticksToDequeue (s : State) : Nat := ticksToFetch s.mode s.t + Config.bitTicks * s.bitsLeft.toNat + 1

/-- The clock edges up to the next Dequeue, it included. -/
def edgesToDequeue (s : State) : Nat := ticksToDequeue s * s.div.toNat - s.divcnt.toNat

theorem ticksToFetch_lt_cycleTicks (mode : BitVec 2) (t : BitVec 3) : ticksToFetch mode t < cycleTicks mode := by
  revert mode t; decide

/-- A Dequeue comes within one Word or transfer. -/
theorem ticksToDequeue_le (s : State) (hs : sequencerOk s = true) :
    ticksToDequeue s ≤ if s.mode = 0b00#2 then 144 else if s.mode = 0b01#2 then 2 else 4 := by
  have hfetch := ticksToFetch_lt_cycleTicks s.mode s.t
  unfold ticksToDequeue
  by_cases hm : s.mode = 0b00#2
  · obtain ⟨-, hbits, -⟩ := (sequencerOk_iff_of_pulse s hm).1 hs
    simp only [cycleTicks, Config.bitTicks, hm, if_true] at hfetch ⊢
    omega
  · obtain ⟨-, hbits, -⟩ := (sequencerOk_iff_of_parallel s hm).1 hs
    simpa [cycleTicks, hm, hbits, Config.parcTicks, Config.parsTicks, Nat.succ_le_iff] using hfetch

/-- A tick takes the head of the Channel, the first to do so, or leaves the Channel and one tick fewer to the one
that does. -/
def DequeuesOrNears (s t : State) : Prop :=
  (ticksToDequeue s = 1 ∧ t.q = s.q.tail) ∨ (t.q = s.q ∧ ticksToDequeue s = ticksToDequeue t + 1)

/-- A tick that only moves `T` one place along its cycle brings the Dequeue one tick nearer. -/
theorem dequeuesOrNears_of_move (s t : State) (hq : t.q = s.q) (hm : t.mode = s.mode) (hb : t.bitsLeft = s.bitsLeft)
    (hfetch : ticksToFetch s.mode s.t = ticksToFetch s.mode t.t + 1) : DequeuesOrNears s t := by
  refine .inr ⟨hq, ?_⟩
  rw [ticksToDequeue, ticksToDequeue, hm, hb]
  omega

/-- A fetch with payload bits left sends one of them, which takes a bit period. -/
theorem execPulseFetch_dequeues_or_nears (s t : State) (hm : s.mode = 0b00#2) (ht : s.t = 0#3) (hq : s.q ≠ [])
    (h : execPulseFetch s = .next t) : DequeuesOrNears s t := by
  obtain ⟨hb, rfl⟩ | ⟨w, rest, hb, hw, rfl⟩ | ⟨-, hnil, -⟩ := execPulseFetch_cases s t h
  · have hbits : (s.bitsLeft - 1#5).toNat + 1 = s.bitsLeft.toNat := by bv_omega
    have hnow : ticksToFetch s.mode s.t = 0 := if_pos ht
    have hnext : ticksToFetch s.mode 1#3 = 5 := by rw [hm]; rfl
    refine .inr ⟨rfl, ?_⟩
    change ticksToFetch s.mode s.t + 6 * s.bitsLeft.toNat + 1 =
      ticksToFetch s.mode 1#3 + 6 * (s.bitsLeft - 1#5).toNat + 1 + 1
    omega
  · exact .inl ⟨by simp [ticksToDequeue, ticksToFetch, ht, hb], by simp [takeBit_eq, loadWord_eq, hw]⟩
  · exact absurd hnil hq

theorem fetchParallel_dequeues (s t : State) (ht : s.t = 0#3) (hb : s.bitsLeft = 0#5) (hq : s.q ≠ [])
    (h : fetchParallel s = .next t) : DequeuesOrNears s t := by
  obtain ⟨w, rest, hw, rfl⟩ | ⟨hnil, -⟩ := fetchParallel_cases s t h
  · exact .inl ⟨by simp [ticksToDequeue, ticksToFetch, ht, hb], by simp [hw]⟩
  · exact absurd hnil hq

theorem tick_dequeues_or_nears (s t : State) (hs : sequencerOk s = true) (hq : s.q ≠ []) (h : tick s = .next t) :
    DequeuesOrNears s t := by
  rcases tick_cases s t h with ⟨hm, hp⟩ | ⟨hm, hp⟩ | ⟨hm, hp⟩
  · rcases hp with ⟨ht, hf⟩ | ⟨ht, rfl⟩ | ⟨ht, rfl⟩ | ⟨ht, rfl⟩ | ⟨ht, rfl⟩ | ⟨ht, rfl⟩
    · exact execPulseFetch_dequeues_or_nears s t hm ht hq hf
    all_goals exact dequeuesOrNears_of_move s _ rfl rfl rfl (by rw [hm, ht]; rfl)
  · obtain ⟨-, hb, -⟩ := (sequencerOk_iff_of_parallel s (by simp [hm])).1 hs
    rcases hp with ⟨ht, hf⟩ | ⟨ht, rfl⟩
    · exact fetchParallel_dequeues s t ht hb hq hf
    · exact dequeuesOrNears_of_move s _ rfl rfl rfl (by rw [hm, ht]; rfl)
  · obtain ⟨-, hb, -⟩ := (sequencerOk_iff_of_parallel s (by simp [hm])).1 hs
    rcases hp with ⟨ht, hf⟩ | ⟨ht, rfl⟩ | ⟨ht, rfl⟩ | ⟨ht, rfl⟩
    · exact fetchParallel_dequeues s t ht hb hq hf
    all_goals exact dequeuesOrNears_of_move s _ rfl rfl rfl (by rw [hm, ht]; rfl)

/-- A tick that is not the Dequeue takes the rest of one divider period off the clock edges up to it. -/
theorem edgesToDequeue_of_near (s t : State) (hticks : ticksToDequeue s = ticksToDequeue t + 1)
    (hlt : s.divcnt.toNat < s.div.toNat) (hdiv : t.div = s.div) (hcnt : t.divcnt = 0#16) :
    edgesToDequeue s = (s.div.toNat - s.divcnt.toNat) + edgesToDequeue t := by
  rw [edgesToDequeue, edgesToDequeue, hticks, hdiv, hcnt, BitVec.toNat_zero, Nat.succ_mul]
  omega

/-- While a push holds with `EN` = 1, the clock edges up to the next Dequeue take the head of the Channel and leave the
push pending. -/
theorem run_to_dequeue (data : Word) (rest : List Input) (s : State) (hs : Live s) (hen : s.en = true)
    (hfull : s.q.length = s.depth)
    (hin : s.inputs = .access 0x148#9 data :: (List.replicate (edgesToDequeue s) .sysclk ++ rest)) :
    ∃ u : State, Host.Core.run core (edgesToDequeue s) s = .next u ∧ Live u ∧ u.q = s.q.tail ∧ u.depth = s.depth ∧
      u.inputs = .access 0x148#9 data :: rest := by
  induction hk : ticksToDequeue s using Nat.strong_induction_on generalizing s with
  | _ k ih =>
    obtain ⟨hd, hq, hseq⟩ := (invariantsOk_iff s).1 hs.2
    obtain ⟨-, hlt⟩ := (dividerOk_iff s).1 hd
    obtain ⟨hlo, -, -⟩ := (channelOk_iff s).1 hq
    obtain ⟨-, hpos⟩ := dataOk_and_positionOk s hs.2
    have hne : s.q ≠ [] := List.ne_nil_of_length_pos (by omega)
    have hw : HostWaits [.access 0x148#9 data] s := .inr ⟨data, rfl, hfull⟩
    obtain ⟨t, htick⟩ := tick_answers (s.setDivcnt 0#16) hpos
    have hdepth : t.depth = s.depth := (tick_depth _ _ (htick []) :)
    obtain ⟨-, -, hdiv, hcnt, -⟩ := tick_control _ _ (htick [])
    have hnear : DequeuesOrNears s t :=
      tick_dequeues_or_nears ((s.setDivcnt 0#16).setInputs []) (t.setInputs []) hseq hne (htick [])
    obtain ⟨hlast, hq'⟩ | ⟨hq', hticks⟩ := hnear
    · have hedges : edgesToDequeue s = s.div.toNat - s.divcnt.toNat := by
        rw [edgesToDequeue, hlast, Nat.one_mul]
      rw [hedges] at hin ⊢
      obtain ⟨hrun, hlive, -, -, -, hin'⟩ := run_to_tick _ rest s _ hs hen hw hin (htick _)
      exact ⟨_, hrun, hlive, hq', hdepth, hin'⟩
    · have hedges := edgesToDequeue_of_near s t hticks hlt hdiv hcnt
      have hfull' : t.q.length = t.depth := by rw [hq', hfull, hdepth]
      rw [hedges, List.replicate_add, List.append_assoc] at hin
      obtain ⟨hrun, hlive, hen', -, -, hin'⟩ := run_to_tick _ _ s _ hs hen hw hin (htick _)
      obtain ⟨u, hrest, hu, huq, hud, huin⟩ := ih (ticksToDequeue t) (by omega) _ hlive hen' hfull' hin' rfl
      refine ⟨u, ?_, hu, huq.trans (congrArg List.tail hq'), hud.trans hdepth, huin⟩
      rw [hedges, run_add _ _ s _ hrun]
      exact hrest

/-- A push that is next and finds room appends its Word. -/
theorem step_of_push (data : Word) (rest : List Input) (s : State) (hs : Live s) (hroom : s.q.length < s.depth)
    (hin : s.inputs = .access 0x148#9 data :: rest) :
    step s = .next ((s.setInputs rest).setQ (s.q ++ [data])) := by
  rw [stepRunsTheHostOperation s 0x148#9 data rest hs hin fun h => hroom.ne h.2]
  have hnot : txdataHeld (s.setInputs rest) = false := by simpa [txdataHeld, level] using hroom.ne
  have hpush : execWrTxdata data (s.setInputs rest) = enqueue data (s.setInputs rest) := by
    simp [execWrTxdata, hnot]
  exact hpush.trans (enqueue_of_room data (s.setInputs rest) hroom)

end Sys2Proof.Machine

/-- Settles O23: the first branch of the SYSCLK step. -/
theorem disabledSysclkChangesNothing : Obligations.DisabledSysclkChangesNothing := sysclk_of_disabled

/-- Settles O24: the two branches of the SYSCLK step with `EN` = 1. -/
theorem enabledSysclkTicksEveryDivSteps : Obligations.EnabledSysclkTicksEveryDivSteps := fun s h =>
  ⟨sysclk_of_tick s h, sysclk_of_count s h⟩

/-- Settles O25: MODE selects the encoder, `T` its micro-state; every other code faults. -/
theorem tickRunsTheSelectedMicroState : Obligations.TickRunsTheSelectedMicroState := by
  intro s
  rcases mode_cases s.mode with hm | hm | hm | hm
  · rw [tick_pulse s hm, hm]
    rcases timer_cases s.t with ht | ht | ht | ht | ht | ht | ht | ht <;> rw [ht] <;> rfl
  · rw [tick_parc s hm, hm]
    rcases timer_cases s.t with ht | ht | ht | ht | ht | ht | ht | ht <;> rw [ht] <;> rfl
  · rw [tick_pars s hm, hm]
    rcases timer_cases s.t with ht | ht | ht | ht | ht | ht | ht | ht <;> rw [ht] <;> rfl
  · rw [tick_mode3 s hm, hm]
    rfl

/-- Settles O26: where a tick leaves `T`, and that it does not write MODE. -/
theorem bitTimerFollowsItsCycle : Obligations.BitTimerFollowsItsCycle := fun s s' h =>
  ⟨(congrArg State.mode (tick_writes s s' h) :), tick_t s s' h⟩

/-- Settles O39: within the invariants a clock edge is the SYSCLK step, whose three cases are R101 and R102. -/
theorem stepRunsTheMicroState : Obligations.StepRunsTheMicroState := by
  intro s rest hs hin
  have hstep : step s = sysclk (s.setInputs rest) := step_of_edge s [] rest hs (.inl rfl) hin
  rw [hstep]
  exact ⟨rfl, sysclk_of_disabled (s.setInputs rest), sysclk_of_count (s.setInputs rest),
    sysclk_of_tick (s.setInputs rest)⟩

/-- Settles O27: the edges of one divider period end in a tick, and the ones after the k-th tick only count. -/
theorem kthTickFallsOnStepKTimesDiv : Obligations.KthTickFallsOnStepKTimesDiv := by
  intro k j s rest hs hen hcnt hj hin
  induction k generalizing s with
  | zero =>
    refine ⟨s.setInputs rest, rfl, ?_⟩
    rw [Nat.zero_mul, Nat.zero_add] at hin ⊢
    have hrun := run_count [] rest j s hs hen (.inl rfl) hin (by simpa [hcnt] using hj)
    rwa [hcnt, BitVec.zero_add] at hrun
  | succ k ih =>
    obtain ⟨-, hpos⟩ := dataOk_and_positionOk s hs.2
    obtain ⟨t, htick⟩ := tick_answers s hpos
    have hperiod : (k + 1) * s.div.toNat + j = (s.div.toNat - s.divcnt.toNat) + (k * s.div.toNat + j) := by
      rw [hcnt, BitVec.toNat_zero, Nat.sub_zero]
      ring
    have hfirst : ∀ is, tick ((s.setDivcnt 0#16).setInputs is) = .next (t.setInputs is) := by
      rw [← hcnt]
      exact htick
    rw [hperiod, List.replicate_add, List.append_assoc] at hin
    obtain ⟨hrun, hlive, hen', hdiv', hcnt', hin'⟩ := run_to_tick [] _ s _ hs hen (.inl rfl) hin (hfirst _)
    obtain ⟨u, hticks, hrest⟩ := ih _ hlive hen' hcnt' (by rwa [hdiv']) (by rw [hdiv']; exact hin')
    refine ⟨u, ?_, ?_⟩
    · exact (ticks_succ k _ _ (htick rest)).trans hticks
    · rw [hdiv'] at hrest
      rw [hperiod, run_add _ _ s _ hrun]
      exact hrest

/-- Settles O36: the Dequeue comes within one Word or transfer, and the push then finds the room it made. -/
theorem heldPushIsReleasedInBoundedTime : Obligations.HeldPushIsReleasedInBoundedTime := by
  intro s data rest hs hen hfull n hin
  obtain ⟨-, hq, hseq⟩ := (invariantsOk_iff s).1 hs.2
  obtain ⟨hlo, -, -⟩ := (channelOk_iff s).1 hq
  have hbound : edgesToDequeue s ≤ n :=
    (Nat.sub_le _ _).trans (Nat.mul_le_mul_right _ (ticksToDequeue_le s hseq))
  obtain ⟨m, hm⟩ := Nat.exists_eq_add_of_le hbound
  have hleft : n - edgesToDequeue s = m := by omega
  rw [hm, List.replicate_add, List.append_assoc] at hin
  obtain ⟨u, hrun, hlive, hq', hdepth, hin'⟩ := run_to_dequeue data _ s hs hen hfull hin
  have hroom : u.q.length < u.depth := by
    rw [hq', hdepth, List.length_tail]
    omega
  refine ⟨edgesToDequeue s, (u.setInputs (List.replicate m .sysclk ++ rest)).setQ (u.q ++ [data]), hbound, ?_, ?_, ?_⟩
  · rw [run_add _ 1 s u hrun]
    exact run_one u _ (step_of_push data _ u hlive hroom hin')
  · rw [State.setQ_q, hq']
  · rw [hleft]
    rfl

end

section
/-! The statements about the pulse encoder (41_pulse_encoder.md): its micro-states, the codes no rule reaches, and the
waveforms of a bit and of a stream of Words. -/

open Sys2Proof Sys2Proof.Machine Sys2Proof.Safety

namespace Sys2Proof.Machine

/-! ## Runs of ticks and what is seen of them -/

/-- `n` ticks take `s` to `u`, and `look` sees `l` after them, one by one. -/
def TicksTo {α : Type} (look : State → α) (n : Nat) (s : State) (l : List α) (u : State) : Prop :=
  tickTrace look n s = l ∧ ticks n s = .next u

section
variable {α : Type} {look : State → α} {m n : Nat} {s t u : State} {l l' : List α}

theorem TicksTo.zero : TicksTo look 0 s [] s := ⟨rfl, rfl⟩

theorem tickTrace_succ (h : tick s = .next t) : tickTrace look (n + 1) s = look t :: tickTrace look n t := by
  simp only [tickTrace, h]

/-- One tick, then the rest of the run. -/
theorem TicksTo.cons (h : tick s = .next t) (hrest : TicksTo look n t l u) :
    TicksTo look (n + 1) s (look t :: l) u := by
  obtain ⟨hseen, hrun⟩ := hrest
  exact ⟨by rw [tickTrace_succ h, hseen], by rw [ticks_succ n s t h, hrun]⟩

/-- A run that answers starts with a tick that answers. -/
theorem TicksTo.of_succ (h : TicksTo look (n + 1) s l u) :
    ∃ t l', tick s = .next t ∧ l = look t :: l' ∧ TicksTo look n t l' u := by
  obtain ⟨rfl, hrun⟩ := h
  rcases hone : tick s with t | f | r
  · exact ⟨t, _, rfl, tickTrace_succ hone, rfl, (ticks_succ n s t hone).symm.trans hrun⟩
  · simp only [ticks, hone, reduceCtorEq] at hrun
  · simp only [ticks, hone, reduceCtorEq] at hrun

/-- Two runs, one after the other. -/
theorem TicksTo.append (h : TicksTo look m s l t) (h' : TicksTo look n t l' u) :
    TicksTo look (m + n) s (l ++ l') u := by
  induction m generalizing s l with
  | zero =>
    obtain ⟨rfl, hst⟩ := h
    cases hst
    rwa [Nat.zero_add]
  | succ m ih =>
    obtain ⟨v, l₁, hone, rfl, hrest⟩ := h.of_succ
    rw [Nat.succ_add]
    exact (ih hrest).cons hone

/-- A run depends on its first state only by the first tick. -/
theorem TicksTo.of_tick_eq (h : TicksTo look (n + 1) t l u) (hst : tick s = tick t) :
    TicksTo look (n + 1) s l u := by
  obtain ⟨v, l₁, hone, rfl, hrest⟩ := h.of_succ
  exact hrest.cons (hst.trans hone)

end

/-! ## The fetch tick, case by case (41_pulse_encoder.md R121) -/

/-- The sequencer is in PULSE, and its next tick is a fetch. -/
def AtPulseFetch (s : State) : Prop := s.mode = 0b00#2 ∧ s.t = 0#3

/-- What loading a Word and taking its first bit leave. -/
theorem takeBit_loadWord (w : Word) (s : State) :
    takeBit (loadWord w s) = { s with cur := w.getLsbD 31, osr := w <<< 1, bitsLeft := 23#5, t := 1#3 } := by
  simp only [takeBit_eq, loadWord_eq, nextPayloadBit, BitVec.reduceSub]

theorem tick_at_fetch (s : State) (h : AtPulseFetch s) : tick s = execPulseFetch s := by
  obtain ⟨hm, ht⟩ := h
  rw [tick_pulse s hm, ht]
  rfl

theorem tick_at_fetch_of_bit (s : State) (h : AtPulseFetch s) (hb : s.bitsLeft ≠ 0#5) :
    tick s = .next (takeBit (s.setPulseOut false)) :=
  (tick_at_fetch s h).trans (execPulseFetch_of_bit s hb)

/-- A fetch that dequeues a Word does what it would do had the Word been in `OSR` already. -/
theorem tick_at_fetch_of_word (s : State) (w : Word) (rest : List Word) (h : AtPulseFetch s) (hb : s.bitsLeft = 0#5)
    (hq : s.q = w :: rest) : tick s = tick (loadWord w (s.setQ rest)) := by
  rw [tick_at_fetch s h, execPulseFetch_of_word s w rest hb hq]
  exact (tick_at_fetch_of_bit (loadWord w (s.setQ rest)) h (by simp [loadWord_eq])).symm

/-! ## One bit (41_pulse_encoder.md R128) -/

/-- `PULSE_OUT`, what `lineTrace` records after each tick. -/
def lineLevel (s : State) : Bool := s.pulseOut

/-- The line at the level `v`, the bit timer at `p`. -/
def driven (v : Bool) (p : BitVec 3) (s : State) : State := (s.setPulseOut v).setT p

/-- A tick that drives the line, then the rest of the run (R122-R126). -/
theorem TicksTo.drive {n : Nat} {v : Bool} {p : BitVec 3} {s u : State} {l : List Bool} (v' : Bool) (p' : BitVec 3)
    (hm : s.mode = 0b00#2) (hexec : exec (decodePulse p) (driven v p s) = driveLine v' p' (driven v p s))
    (hrest : TicksTo lineLevel n (driven v' p' s) l u) : TicksTo lineLevel (n + 1) (driven v p s) (v' :: l) u := by
  have htick : tick (driven v p s) = .next (driven v' p' s) := (tick_pulse (driven v p s) hm).trans hexec
  exact hrest.cons htick

/-- The five ticks after a fetch that took a bit: two high, two at `CUR`, one low. -/
theorem ticksTo_after_fetch (s : State) (hm : s.mode = 0b00#2) :
    TicksTo lineLevel 5 (driven false 1#3 s) [true, true, s.cur, s.cur, false] (driven false 0#3 s) :=
  .drive true 2#3 hm rfl <| .drive true 3#3 hm rfl <| .drive s.cur 4#3 hm rfl <| .drive s.cur 5#3 hm rfl <|
    .drive false 0#3 hm rfl .zero

/-- The sequencer after one bit: it is gone from `OSR` into `CUR`, and the line is low. -/
def bitSent (s : State) : State := driven false 0#3 (takeBit s)

theorem bitSent_atPulseFetch (s : State) (h : AtPulseFetch s) : AtPulseFetch (bitSent s) := ⟨h.1, rfl⟩

/-- The six ticks of a bit in hand. -/
theorem ticksTo_bit (s : State) (h : AtPulseFetch s) (hb : s.bitsLeft ≠ 0#5) :
    TicksTo lineLevel 6 s (bitWave (nextPayloadBit s.osr)) (bitSent s) := by
  have hfetch : tick s = .next (driven false 1#3 (takeBit s)) := tick_at_fetch_of_bit s h hb
  exact (ticksTo_after_fetch (takeBit s) h.1).cons hfetch

/-! ## The bits of a Word, and a stream of Words (41_pulse_encoder.md R129) -/

/-- The first `k` bits of a Word to be sent, MSB first. -/
def topBits (k : Nat) (w : Word) : List Bool := (List.range k).map w.getMsbD

theorem topBits_succ (k : Nat) (w : Word) : topBits (k + 1) w = nextPayloadBit w :: topBits k (w <<< 1) := by
  simp only [topBits, List.range_succ_eq_map, List.map_cons, List.map_map, nextPayloadBit_eq_getMsbD]
  refine congrArg _ (List.map_congr_left fun i _ => ?_)
  rw [BitVec.getMsbD_shiftLeft, Function.comp_apply]

/-- The payload of a Word is its 24 top bits. -/
theorem payload_eq_topBits (w : Word) : payload w = topBits 24 w := by
  refine List.map_congr_left fun i hi => ?_
  rw [Config.payloadBits, List.mem_range] at hi
  rw [BitVec.getMsbD, decide_eq_true (by omega), Bool.true_and]

/-- All payload bits of the Word in `OSR` are sent, and the Channel is as it was. -/
theorem ticksTo_bits (k : Nat) (s : State) (h : AtPulseFetch s) (hk : s.bitsLeft.toNat = k) :
    ∃ u : State, TicksTo lineLevel (6 * k) s ((topBits k s.osr).flatMap bitWave) u ∧
      AtPulseFetch u ∧ u.bitsLeft = 0#5 ∧ u.q = s.q := by
  induction k generalizing s with
  | zero => exact ⟨s, .zero, h, BitVec.eq_of_toNat_eq hk, rfl⟩
  | succ k ih =>
    have hb : s.bitsLeft ≠ 0#5 := by bv_omega
    have hk' : (s.bitsLeft - 1#5).toNat = k := by bv_omega
    obtain ⟨u, hrun, hu⟩ := ih (bitSent s) (bitSent_atPulseFetch s h) hk'
    refine ⟨u, ?_, hu⟩
    rw [topBits_succ, List.flatMap_cons, Nat.mul_succ, Nat.add_comm]
    exact (ticksTo_bit s h hb).append hrun

/-- The 144 ticks of the Word at the head of the Channel. -/
theorem ticksTo_word (s : State) (w : Word) (rest : List Word) (h : AtPulseFetch s) (hb : s.bitsLeft = 0#5)
    (hq : s.q = w :: rest) :
    ∃ u : State, TicksTo lineLevel 144 s (wordWave w) u ∧ AtPulseFetch u ∧ u.bitsLeft = 0#5 ∧ u.q = rest := by
  obtain ⟨u, hrun, hu⟩ := ticksTo_bits 24 (loadWord w (s.setQ rest)) h rfl
  rw [wordWave, payload_eq_topBits]
  exact ⟨u, hrun.of_tick_eq (tick_at_fetch_of_word s w rest h hb hq), hu⟩

/-- The Words at the front of the Channel go out, one after the other. -/
theorem ticksTo_stream (ws rest : List Word) (s : State) (h : AtPulseFetch s) (hb : s.bitsLeft = 0#5)
    (hq : s.q = ws ++ rest) :
    ∃ u : State, TicksTo lineLevel (144 * ws.length) s (ws.flatMap wordWave) u ∧
      AtPulseFetch u ∧ u.bitsLeft = 0#5 ∧ u.q = rest := by
  induction ws generalizing s with
  | nil => exact ⟨s, .zero, h, hb, hq⟩
  | cons w ws ih =>
    obtain ⟨v, hword, hv, hbv, hqv⟩ := ticksTo_word s w (ws ++ rest) h hb hq
    obtain ⟨u, hrun, hu⟩ := ih v hv hbv hqv
    refine ⟨u, ?_, hu⟩
    rw [List.length_cons, Nat.mul_succ, Nat.add_comm]
    exact hword.append hrun

/-! ## The codes no rule reaches (41_pulse_encoder.md R127) -/

theorem tick_of_unreachable_pulse (s : State) (hm : s.mode = 0b00#2) (ht : 6 ≤ s.t.toNat) :
    tick s = .fault .unreachableUstate := by
  rw [tick, ustate, hm, decodeUstate_pulseUnreachable s.t ht]
  rfl

/-- Within the invariants `T` is at most 5 in PULSE (10_state.md R26). -/
theorem timer_le_of_pulse (s : State) (hs : InvariantsHold s) (hm : s.mode = 0b00#2) : s.t.toNat ≤ 5 := by
  obtain ⟨-, hpos⟩ := dataOk_and_positionOk s hs
  simpa [positionOk, hm] using hpos

end Sys2Proof.Machine

/-- Settles O13: the three cases of the fetch. -/
theorem pulseFetchTakesTheNextBitOrStalls : Obligations.PulseFetchTakesTheNextBitOrStalls := by
  refine ⟨rfl, fun s => ⟨execPulseFetch_of_bit s, fun w rest hb hq => ?_, execPulseFetch_of_stall s⟩⟩
  have hword := execPulseFetch_of_word s w rest hb hq
  rw [takeBit_loadWord] at hword
  exact hword

/-- Settles O14: both ticks drive a fixed level. -/
theorem pulseLeadTicksDriveTheLineHigh : Obligations.PulseLeadTicksDriveTheLineHigh :=
  ⟨rfl, rfl, fun _ => ⟨rfl, rfl⟩⟩

/-- Settles O15: both ticks drive `CUR`. -/
theorem pulseDataTicksDriveTheCurrentBit : Obligations.PulseDataTicksDriveTheCurrentBit :=
  ⟨rfl, rfl, fun _ => ⟨rfl, rfl⟩⟩

/-- Settles O16: the tick drives a fixed level and puts `T` back to 0. -/
theorem pulseTrailTickDrivesTheLineLow : Obligations.PulseTrailTickDrivesTheLineLow :=
  ⟨rfl, fun _ => rfl⟩

/-- Settles O17: a step keeps the invariants, which bound `T` in PULSE. -/
theorem unreachablePulseCodesFault : Obligations.UnreachablePulseCodesFault := by
  refine ⟨fun _ _ => rfl, tick_of_unreachable_pulse, fun s s' hs h ⟨hm, ht⟩ => ?_⟩
  have hle : s'.t.toNat ≤ 5 := timer_le_of_pulse s' (stepKeepsTheInvariants s s' hs h) hm
  omega

/-- Settles O28: the six ticks of a bit in hand; the first bit of a next Word is as one in hand. -/
theorem pulseBitWaveform : Obligations.PulseBitWaveform := by
  intro s b hm ht hbit
  suffices hrun : ∃ u, TicksTo lineLevel 6 s (bitWave b) u ∧ AtPulseFetch u by
    obtain ⟨u, ⟨hline, hticks⟩, hu⟩ := hrun
    exact ⟨hline, u, hticks, hu⟩
  obtain ⟨hb, rfl⟩ | ⟨hb, w, rest, hq, rfl⟩ := hbit
  · exact ⟨bitSent s, ticksTo_bit s ⟨hm, ht⟩ hb, bitSent_atPulseFetch s ⟨hm, ht⟩⟩
  · have hload : tick s = tick (loadWord w (s.setQ rest)) := tick_at_fetch_of_word s w rest ⟨hm, ht⟩ hb hq
    have hrun := ticksTo_bit (loadWord w (s.setQ rest)) ⟨hm, ht⟩ (by simp [loadWord_eq])
    exact ⟨_, hrun.of_tick_eq hload, bitSent_atPulseFetch _ ⟨hm, ht⟩⟩

/-- Settles O29: Word by Word, and each Word bit by bit. -/
theorem pulseStreamWaveform : Obligations.PulseStreamWaveform := by
  intro ws rest s hm ht hb hq
  obtain ⟨u, ⟨hline, hticks⟩, ⟨hmu, htu⟩, hbu, hqu⟩ := ticksTo_stream ws rest s ⟨hm, ht⟩ hb hq
  exact ⟨hline, u, hticks, hmu, htu, hbu, hqu⟩

end

section
/-! The statements about the parallel encoder (42_parallel_encoder.md): its micro-states, the codes no rule reaches, and
the waveforms of a stream of Words in both variants. -/

open Sys2Proof Sys2Proof.Machine Sys2Proof.Safety

namespace Sys2Proof.Machine

/-! ## The data lines (30_encoding.md R86) -/

/-- Data line `i` is bit `i` of the Word. -/
theorem parallelData_getLsbD (w : Word) (i : Nat) (hi : i < 8) : (parallelData w).getLsbD i = w.getLsbD i := by
  simp [parallelData, hi]

/-! ## The codes no rule reaches (42_parallel_encoder.md R143, R148) -/

theorem tick_of_unreachable_parc (s : State) (hm : s.mode = 0b01#2) (ht : 2 ≤ s.t.toNat) :
    tick s = .fault .unreachableUstate := by
  by_cases h4 : 4 ≤ s.t.toNat
  · rw [tick, ustate, hm, decodeUstate_parcUnreachable47 s.t h4]
    rfl
  · have hrow : ∀ p : BitVec 3, 2 ≤ p.toNat → ¬ 4 ≤ p.toNat → p.extractLsb' 1 2 = 0b01#2 := by decide
    rw [tick, ustate, hm, decodeUstate_parcUnreachable23 s.t (hrow s.t ht h4)]
    rfl

theorem tick_of_unreachable_pars (s : State) (hm : s.mode = 0b10#2) (ht : 4 ≤ s.t.toNat) :
    tick s = .fault .unreachableUstate := by
  rw [tick, ustate, hm, decodeUstate_parsUnreachable s.t ht]
  rfl

/-- Within the invariants `T` is at most 1 in PAR_CONCURRENT (10_state.md R26). -/
theorem timer_le_of_parc (s : State) (hs : InvariantsHold s) (hm : s.mode = 0b01#2) : s.t.toNat ≤ 1 := by
  obtain ⟨-, hpos⟩ := dataOk_and_positionOk s hs
  simpa [positionOk, hm] using hpos

/-- Within the invariants `T` is at most 3 in PAR_SETTLED (10_state.md R26). -/
theorem timer_le_of_pars (s : State) (hs : InvariantsHold s) (hm : s.mode = 0b10#2) : s.t.toNat ≤ 3 := by
  obtain ⟨-, hpos⟩ := dataOk_and_positionOk s hs
  simpa [positionOk, hm] using hpos

/-- Within the invariants MODE is no reserved code (10_state.md R23). -/
theorem mode_ne_reserved (s : State) (hs : InvariantsHold s) : s.mode ≠ 0b11#2 := by
  intro hm
  obtain ⟨-, hpos⟩ := dataOk_and_positionOk s hs
  simp [positionOk, hm] at hpos

/-! ## One Word (42_parallel_encoder.md R141, R142, R144-R147) -/

/-- `PAR_CLK` and `PAR_D`, what `busTrace` records after each tick. -/
def busLevels (s : State) : Bool × BitVec 8 := (s.parClk, s.parD)

/-- The clock at the level `clk`, `d` on the data lines, the bit timer at `p`. -/
def onBus (clk : Bool) (d : BitVec 8) (p : BitVec 3) (s : State) : State := ((s.setParD d).setParClk clk).setT p

/-- A tick that leaves the bus at `clk` and `d`, then the rest of the run. -/
theorem TicksTo.bus {n : Nat} {clk : Bool} {d : BitVec 8} {p : BitVec 3} {s v u : State} {l : List (Bool × BitVec 8)}
    (h : tick s = .next (onBus clk d p v)) (hrest : TicksTo busLevels n (onBus clk d p v) l u) :
    TicksTo busLevels (n + 1) s ((clk, d) :: l) u :=
  hrest.cons h

/-- The sequencer is in the PAR MODE `m`, and its next tick is a fetch. -/
def AtParallelFetch (m : BitVec 2) (s : State) : Prop := s.mode = m ∧ s.t = 0#3

/-- The Word `w` is in `OSR`, and `rest` is left in the Channel. -/
def wordLoaded (w : Word) (rest : List Word) (s : State) : State := (s.setQ rest).setOsr w

/-- The state after the last tick of the transfer of `w`, in both variants. -/
def wordSent (w : Word) (rest : List Word) (s : State) : State :=
  onBus true (parallelData w) 0#3 (wordLoaded w rest s)

theorem tick_at_parallel_fetch (s : State) (hm : s.mode = 0b01#2 ∨ s.mode = 0b10#2) (ht : s.t = 0#3) :
    tick s = fetchParallel s := by
  rcases hm with hm | hm
  · rw [tick_parc s hm, ht]
    rfl
  · rw [tick_pars s hm, ht]
    rfl

/-- The fetch of a Word lowers the clock and keeps the old data on the lines. -/
theorem tick_fetches_word (s : State) (w : Word) (rest : List Word) (hm : s.mode = 0b01#2 ∨ s.mode = 0b10#2)
    (ht : s.t = 0#3) (hq : s.q = w :: rest) : tick s = .next (onBus false s.parD 1#3 (wordLoaded w rest s)) :=
  (tick_at_parallel_fetch s hm ht).trans (fetchParallel_of_word s w rest hq)

/-- The transfer tick of the Concurrent variant, after the fetch. -/
theorem ticksTo_after_parc_fetch (d : BitVec 8) (s : State) (hm : s.mode = 0b01#2) :
    TicksTo busLevels 1 (onBus false d 1#3 s) [(true, parallelData s.osr)]
      (onBus true (parallelData s.osr) 0#3 s) := by
  have hxfer : tick (onBus false d 1#3 s) = .next (onBus true (parallelData s.osr) 0#3 s) :=
    tick_parc (onBus false d 1#3 s) hm
  exact .bus hxfer .zero

/-- The three ticks of the Data-settled variant after the fetch: the data with the clock low, then the clock high
twice. -/
theorem ticksTo_after_pars_fetch (d : BitVec 8) (s : State) (hm : s.mode = 0b10#2) :
    TicksTo busLevels 3 (onBus false d 1#3 s)
      [(false, parallelData s.osr), (true, parallelData s.osr), (true, parallelData s.osr)]
      (onBus true (parallelData s.osr) 0#3 s) := by
  have hdupd : tick (onBus false d 1#3 s) = .next (onBus false (parallelData s.osr) 2#3 s) :=
    tick_pars (onBus false d 1#3 s) hm
  have hclkh : tick (onBus false (parallelData s.osr) 2#3 s) = .next (onBus true (parallelData s.osr) 3#3 s) :=
    tick_pars (onBus false (parallelData s.osr) 2#3 s) hm
  have hhold : tick (onBus true (parallelData s.osr) 3#3 s) = .next (onBus true (parallelData s.osr) 0#3 s) :=
    tick_pars (onBus true (parallelData s.osr) 3#3 s) hm
  exact .bus hdupd (.bus hclkh (.bus hhold .zero))

/-- The two ticks of a Concurrent transfer. -/
theorem ticksTo_parc_word (s : State) (w : Word) (rest : List Word) (h : AtParallelFetch 0b01#2 s)
    (hq : s.q = w :: rest) : TicksTo busLevels 2 s (parcWave s.parD [w]) (wordSent w rest s) := by
  obtain ⟨hm, ht⟩ := h
  exact .bus (tick_fetches_word s w rest (.inl hm) ht hq) (ticksTo_after_parc_fetch s.parD (wordLoaded w rest s) hm)

/-- The four ticks of a Data-settled transfer. -/
theorem ticksTo_pars_word (s : State) (w : Word) (rest : List Word) (h : AtParallelFetch 0b10#2 s)
    (hq : s.q = w :: rest) : TicksTo busLevels 4 s (parsWave s.parD [w]) (wordSent w rest s) := by
  obtain ⟨hm, ht⟩ := h
  exact .bus (tick_fetches_word s w rest (.inr hm) ht hq) (ticksTo_after_pars_fetch s.parD (wordLoaded w rest s) hm)

/-! ## A stream of Words (42_parallel_encoder.md R150) -/

/-- A variant that sends one Word in `n` ticks sends the Words at the front of the Channel one after the other, each
with the data of the one before it still on the lines. -/
theorem ticksTo_parallel_stream {m : BitVec 2} {n : Nat} {wave : BitVec 8 → List Word → List (Bool × BitVec 8)}
    (hnil : ∀ d, wave d [] = []) (hcons : ∀ d w ws, wave d (w :: ws) = wave d [w] ++ wave (parallelData w) ws)
    (hword : ∀ (s : State) (w : Word) (rest : List Word), AtParallelFetch m s → s.q = w :: rest →
      TicksTo busLevels n s (wave s.parD [w]) (wordSent w rest s))
    (ws rest : List Word) (s : State) (h : AtParallelFetch m s) (hq : s.q = ws ++ rest) :
    ∃ u : State, TicksTo busLevels (n * ws.length) s (wave s.parD ws) u ∧ AtParallelFetch m u ∧ u.q = rest := by
  induction ws generalizing s with
  | nil =>
    rw [hnil]
    exact ⟨s, .zero, h, hq⟩
  | cons w ws ih =>
    obtain ⟨u, hrun, hu⟩ := ih (wordSent w (ws ++ rest) s) ⟨h.1, rfl⟩ rfl
    refine ⟨u, ?_, hu⟩
    rw [hcons, List.length_cons, Nat.mul_succ, Nat.add_comm]
    exact (hword s w (ws ++ rest) h hq).append hrun

end Sys2Proof.Machine

/-- Settles O22: the faults are those of the codes, and a step keeps the invariants, which bound MODE and `T`. -/
theorem unreachableParallelCodesFault : Obligations.UnreachableParallelCodesFault := by
  refine ⟨fun _ _ => ⟨rfl, rfl, rfl, rfl⟩, fun s => ⟨tick_of_unreachable_parc s, tick_of_unreachable_pars s,
    tick_mode3 s⟩, fun s s' hs h => ?_⟩
  have hs' : InvariantsHold s' := stepKeepsTheInvariants s s' hs h
  refine ⟨fun ⟨hm, ht⟩ => ?_, fun ⟨hm, ht⟩ => ?_, mode_ne_reserved s' hs'⟩
  · have hle : s'.t.toNat ≤ 1 := timer_le_of_parc s' hs' hm
    omega
  · have hle : s'.t.toNat ≤ 3 := timer_le_of_pars s' hs' hm
    omega

/-- Settles O31: Word by Word, two ticks each. -/
theorem concurrentStreamWaveform : Obligations.ConcurrentStreamWaveform := by
  intro ws rest s hm ht hq
  obtain ⟨u, ⟨hbus, hticks⟩, ⟨hmu, htu⟩, hqu⟩ :=
    ticksTo_parallel_stream (fun _ => rfl) (fun _ _ _ => rfl) ticksTo_parc_word ws rest s ⟨hm, ht⟩ hq
  exact ⟨hbus, u, hticks, hmu, htu, hqu⟩

/-- Settles O32: Word by Word, four ticks each. -/
theorem settledStreamWaveform : Obligations.SettledStreamWaveform := by
  intro ws rest s hm ht hq
  obtain ⟨u, ⟨hbus, hticks⟩, ⟨hmu, htu⟩, hqu⟩ :=
    ticksTo_parallel_stream (fun _ => rfl) (fun _ _ _ => rfl) ticksTo_pars_word ws rest s ⟨hm, ht⟩ hq
  exact ⟨hbus, u, hticks, hmu, htu, hqu⟩

/-- Settles O18: both variants run the same fetch, which takes the head of the Channel or stalls. -/
theorem parallelFetchTakesTheNextWordOrStalls : Obligations.ParallelFetchTakesTheNextWordOrStalls := by
  refine ⟨rfl, rfl, fun s => ⟨fun w rest hq => ?_, fun hq => ?_⟩⟩
  · exact ⟨fetchParallel_of_word s w rest hq, fetchParallel_of_word s w rest hq⟩
  · exact ⟨fetchParallel_of_stall s hq, fetchParallel_of_stall s hq⟩

/-- Settles O19: the tick drives bits 7:0 of `OSR` and raises the clock. -/
theorem concurrentTransferDrivesDataAndClock : Obligations.ConcurrentTransferDrivesDataAndClock :=
  ⟨rfl, fun s => ⟨parallelData s.osr, parallelData_getLsbD s.osr, rfl⟩⟩

/-- Settles O20: the tick drives bits 7:0 of `OSR` and keeps the clock low. -/
theorem settledDataUpdateKeepsTheClockLow : Obligations.SettledDataUpdateKeepsTheClockLow :=
  ⟨rfl, fun s => ⟨parallelData s.osr, parallelData_getLsbD s.osr, rfl⟩⟩

/-- Settles O21: both ticks raise the clock and write no data line. -/
theorem settledClockTicksHoldTheData : Obligations.SettledClockTicksHoldTheData :=
  ⟨rfl, rfl, fun _ => ⟨rfl, rfl⟩⟩

end

section
/-! The statements about the host's register operations (43_channel_host_ops.md): the reads, the writes, how a TXDATA
write on a full Channel waits, the reserved offsets and the accesses that are not admitted. -/

open Sys2Proof Sys2Proof.Machine Sys2Proof.Safety

namespace Sys2Proof.Machine

/-! ## The values the registers show (10_state.md R24, R30) -/

theorem clkdivWord_toNat (s : State) : (clkdivWord s).toNat = s.div.toNat :=
  (BitVec.toNat_append 0#16 s.div).trans (by simp)

/-- STATUS as its 17 low bits, zero-extended. -/
theorem statusWord_eq_zeroExtend (s : State) :
    statusWord s =
      (BitVec.ofBool s.cfgerr ++ 0#6 ++ BitVec.ofBool (flagEmpty s) ++ BitVec.ofBool (flagFull s) ++ flagLevel s :
        BitVec 17).zeroExtend 32 := by
  apply BitVec.eq_of_getLsbD_eq
  intro i hi
  simp only [statusWord, BitVec.getLsbD_append, BitVec.getLsbD_setWidth]
  interval_cases i <;> simp

/-! ## The register writes, case by case (43_channel_host_ops.md R164, R166, R168) -/

theorem execWrClkdiv_of_error (data : Word) (s : State) (h : s.en = true ∨ clkdivDiv data = 0#16) :
    execWrClkdiv data s = .next (s.setCfgerr true) :=
  if_pos (by simpa using h)

theorem execWrClkdiv_of_legal (data : Word) (s : State) (he : s.en = false) (hd : clkdivDiv data ≠ 0#16) :
    execWrClkdiv data s = .next ((s.setDiv (clkdivDiv data)).setDivcnt 0#16) :=
  if_neg (by simp [he, hd])

theorem execWrTxdata_of_full (data : Word) (s : State) (h : s.q.length = s.depth) :
    execWrTxdata data s = .next s :=
  if_pos (by simpa [txdataHeld, level] using h)

theorem execWrTxdata_of_not_full (data : Word) (s : State) (h : s.q.length ≠ s.depth) :
    execWrTxdata data s = enqueue data s :=
  if_neg (by simpa [txdataHeld, level] using h)

theorem execWrStatus_of_clear (data : Word) (s : State) (h : statusClears data = true) :
    execWrStatus data s = .next (s.setCfgerr false) := by
  simp [execWrStatus, h]

theorem execWrStatus_of_keep (data : Word) (s : State) (h : statusClears data = false) :
    execWrStatus data s = .next s := by
  simp [execWrStatus, h]

/-! ## The CTRL write in the terms of its pseudocode (43_channel_host_ops.md R162) -/

/-- The pseudocode's MODE once the reserved code is replaced is the MODE asked for. -/
theorem requestedMode_eq_pseudocode (data : Word) (s : State) :
    (if decide (data.extractLsb' 1 2 = 0b11#2) then s.mode else data.extractLsb' 1 2) = requestedMode data s := by
  simp only [decide_eq_true_eq]
  rfl

/-- The pseudocode's two errors together are the configuration error. -/
theorem ctrlError_eq_pseudocode (data : Word) (s : State) :
    (decide (data.extractLsb' 1 2 = 0b11#2) || (s.en && decide (requestedMode data s ≠ s.mode))) =
      ctrlError data s := by
  rw [decide_not]
  rfl

/-- The MODE a CTRL write leaves, with the refusal of a change while `EN` = 1 written as the error it is. -/
theorem mode_unless_refused (data : Word) (s : State) :
    (if (s.en && decide (requestedMode data s ≠ s.mode)) = true then s.mode else requestedMode data s) =
      if s.en then s.mode else requestedMode data s := by
  cases s.en with
  | false => rfl
  | true =>
    by_cases hm : requestedMode data s = s.mode
    · simp [hm]
    · simp [hm]

/-! ## A held TXDATA write with no clock edge and no reset listed (log entry 3) -/

theorem splitOther_of_accesses (ops : List Input) (ho : ∀ a ∈ ops, ∃ acc data, a = .access acc data) :
    splitOther ops = none := by
  induction ops with
  | nil => rfl
  | cons a ops ih =>
    obtain ⟨acc, data, rfl⟩ := ho a (by simp)
    simp [splitOther, ih fun b hb => ho b (by simp [hb])]

/-- While a push holds and only operations of the HOST are listed, the free value chooses between a reset and a clock
edge, and the operations all stay. -/
theorem nextEnabled_of_held_free (s : State) (data : Word) (ops : List Input) (hq : s.q.length = s.depth)
    (ho : ∀ a ∈ ops, ∃ acc d, a = .access acc d) (h : s.inputs = .access 0x148#9 data :: ops) :
    nextEnabled s =
      (if Config.nextInput s.inputCount = .reset then .reset else .sysclk, s.setInputCount (s.inputCount + 1)) := by
  have hheld : hostHeld (decodeHostacc 0x148#9 data) s = true := (hostHeld_eq_true _ _ _).mpr ⟨rfl, hq⟩
  have hback : (s.setInputs ops).setInputs (.access 0x148#9 data :: (s.setInputs ops).inputs) = s := by
    rw [State.setInputs_inputs, ← h]
    rfl
  have hnone : splitOther s.inputs = none := by
    rw [h]
    exact splitOther_of_accesses _ (by simpa using ho)
  simp only [nextEnabled, takeInput_cons s _ ops h, hheld, if_true, hback, takeOther, hnone]

/-- A step whose next enabled input is a clock edge is, within the invariants, the SYSCLK step. -/
theorem step_of_next_sysclk (s s' : State) (hr : s.refused = false) (hn : nextEnabled s = (.sysclk, s'))
    (hs' : InvariantsHold s') : step s = sysclk s' := by
  rw [← sysclkTurn_of_invariants s' hs']
  simp [step, stepAgents, hr, hn]

theorem step_of_next_reset (s s' : State) (hr : s.refused = false) (hn : nextEnabled s = (.reset, s')) :
    step s = .next (applyReset s') := by
  simp [step, stepAgents, hr, hn]

/-! ## Reserved offsets and unsupported accesses (43_channel_host_ops.md R169, R170) -/

/-- The multiples of 4 from 0x10 on are the offsets of the two reserved rows. -/
theorem isReserved_of_offset (off : BitVec 6) :
    0x10 ≤ off.toNat → off.toNat % 4 = 0 → Instr.isReserved10 off = true ∨ Instr.isReserved20 off = true := by
  revert off; decide

/-- A read of a reserved offset returns 0, and a write of one changes nothing. -/
theorem exec_reserved (w : Bool) (off : BitVec 6) (data : Word) (s : State)
    (h : Instr.isReserved10 off = true ∨ Instr.isReserved20 off = true) :
    exec (decodeHostacc (hostaccOf 0b10#2 w off) data) s = .next (if w then s else s.setResult (some 0#32)) := by
  obtain h10 | h20 := h
  · rw [decodeHostacc_reserved10 w off data h10]
    cases w <;> rfl
  · rw [decodeHostacc_reserved20 w off data h20]
    cases w <;> rfl

/-- The codes of the four register writes are supported accesses. -/
theorem not_unsupported_register_write :
    ¬ Unsupported 0x140#9 ∧ ¬ Unsupported 0x144#9 ∧ ¬ Unsupported 0x148#9 ∧ ¬ Unsupported 0x14C#9 := by
  unfold Unsupported; decide

theorem exec_unsupported (acc : BitVec 9) (data : Word) (s : State) (hu : Unsupported acc) :
    exec (decodeHostacc acc data) s = .next (s.setRefused true) := by
  obtain ⟨hctrl, hclkdiv, htxdata, hstatus⟩ := not_unsupported_register_write
  rcases exec_host_cases acc data s with ⟨rfl, -⟩ | ⟨rfl, -⟩ | ⟨rfl, -⟩ | ⟨rfl, -⟩ | ⟨hnu, -⟩ | ⟨hnu, -⟩ | ⟨-, he⟩
  · exact absurd hu hctrl
  · exact absurd hu hclkdiv
  · exact absurd hu htxdata
  · exact absurd hu hstatus
  · exact absurd hu hnu
  · exact absurd hu hnu
  · exact he

end Sys2Proof.Machine

/-- Settles O5: the first error and the MODE it replaces are the MODE asked for, the second is a change of it while
`EN` = 1, and the two together are the configuration error. -/
theorem wrCtrlFollowsItsPseudocode : Obligations.WrCtrlFollowsItsPseudocode := by
  intro s data
  refine ⟨rfl, ?_⟩
  have hstart : (s.en = false ∧ data.getLsbD 0 = true) = ((!s.en && ctrlEn data) = true) := by
    simp [ctrlEn]
  simp only [requestedMode_eq_pseudocode, ctrlError_eq_pseudocode, mode_unless_refused, hstart]
  rfl

/-- Settles O8: the write by the Channel's occupancy; a held write leaves the step to the next clock edge or reset,
listed or free. -/
theorem wrTxdataEnqueuesOrHolds : Obligations.WrTxdataEnqueuesOrHolds := by
  refine ⟨fun s data => ⟨rfl, fun hroom => ?_, execWrTxdata_of_full data s, fun hover => ?_⟩,
    fun s data ops rest ⟨hr, hinv⟩ hq ho hin => ?_, fun s data ops ⟨hr, hinv⟩ hq ho hin => ?_⟩
  · exact (execWrTxdata_of_not_full data s hroom.ne).trans (enqueue_of_room data s hroom)
  · exact (execWrTxdata_of_not_full data s hover.ne').trans (enqueue_without_room data s hover.le.not_gt)
  · exact step_of_next_sysclk s _ hr (nextEnabled_of_held s data ops rest .sysclk hq ho (.inl rfl) hin) hinv
  · have hn := nextEnabled_of_held_free s data ops hq ho hin
    split <;> rename_i hfree <;> simp only [hfree, if_true, if_false] at hn
    · exact step_of_next_reset s _ hr hn
    · exact step_of_next_sysclk s _ hr hn hinv

/-- Settles O10: every such offset is of one of the two reserved rows. -/
theorem reservedOffsetsReadZeroIgnoreWrites : Obligations.ReservedOffsetsReadZeroIgnoreWrites := by
  refine ⟨fun s data off hlo halign => ?_, fun _ _ _ => ⟨rfl, rfl, rfl, rfl⟩⟩
  have hres := isReserved_of_offset off hlo halign
  exact ⟨exec_reserved false off data s hres, exec_reserved true off data s hres⟩

/-- Settles O11: of what a host operation can do, only the refusal is for an unsupported code. -/
theorem unsupportedAccessesMarkTheRunRefused : Obligations.UnsupportedAccessesMarkTheRunRefused :=
  ⟨fun s acc data hu => exec_unsupported acc data s hu, fun _ _ _ => ⟨rfl, rfl, rfl, rfl, rfl⟩⟩

/-- Settles O1: a completed read of CTRL. -/
theorem rdCtrlReturnsModeAndEnable : Obligations.RdCtrlReturnsModeAndEnable := fun _ _ => ⟨rfl, rfl⟩

/-- Settles O2: a completed read of CLKDIV, whose value is that of `DIV`, at least 1. -/
theorem rdClkdivReturnsDivisor : Obligations.RdClkdivReturnsDivisor := by
  refine fun s data => ⟨rfl, rfl, fun hinv hzero => ?_⟩
  obtain ⟨hd, -, -⟩ := (invariantsOk_iff s).1 hinv
  obtain ⟨hdiv, -⟩ := (dividerOk_iff s).1 hd
  have hval : (0#32).toNat = s.div.toNat := hzero ▸ clkdivWord_toNat s
  rw [BitVec.toNat_zero] at hval
  omega

/-- Settles O3: a completed read of the value 0. -/
theorem rdTxdataReturnsZero : Obligations.RdTxdataReturnsZero := fun _ _ => ⟨rfl, rfl⟩

/-- Settles O4: a completed read of STATUS; a Channel of depth 1 holds no Word or one. -/
theorem rdStatusReturnsOccupancyAndError : Obligations.RdStatusReturnsOccupancyAndError := by
  refine fun s data => ⟨rfl, ?_, fun hdepth hle => ?_⟩
  · exact congrArg (fun v => Host.Outcome.next (s.setResult (some v))) (statusWord_eq_zeroExtend s)
  · rw [hdepth] at hle ⊢
    obtain hlen | hlen : s.q.length = 0 ∨ s.q.length = 1 := by omega
    · simp [hlen]
    · simp [hlen]

/-- Settles O7: the two branches of the CLKDIV write. -/
theorem wrClkdivSetsDivisorOrReportsError : Obligations.WrClkdivSetsDivisorOrReportsError := fun s data =>
  ⟨rfl, execWrClkdiv_of_error data s, execWrClkdiv_of_legal data s⟩

/-- Settles O9: the two branches of the STATUS write. -/
theorem wrStatusClearsConfigError : Obligations.WrStatusClearsConfigError := fun s data =>
  ⟨rfl, execWrStatus_of_clear data s, execWrStatus_of_keep data s⟩

end

section
/-! The statements about faults and refusals (60_exceptions.md R195): a refused run stays refused, from a state within
the invariants no step faults, and from a broken state every step but a reset faults. -/

open Sys2Proof Sys2Proof.Machine Sys2Proof.Safety

namespace Sys2Proof.Machine

/-! ## Whose step it is (00_scope.md R8) -/

theorem step_of_refused (s : State) (h : s.refused = true) : step s = .refused .unsupportedAccess := by
  simp [step, stepAgents, h]

/-- A run that is not refused takes the turn of the next enabled input, from the state `u` with its inputs brought up
to date. -/
theorem step_turn (s : State) (hr : s.refused = false) :
    ∃ is n, ∃ u : State, u = (s.setInputs is).setInputCount n ∧
      ((∃ acc data, (nextEnabled s).1 = .access acc data ∧ step s = hostTurn acc data u) ∨
       ((nextEnabled s).1 = .sysclk ∧ step s = sysclkTurn u) ∨
       ((nextEnabled s).1 = .reset ∧ step s = .next (applyReset u))) := by
  obtain ⟨⟨is, n, hu⟩, -⟩ := nextEnabled_state s
  refine ⟨is, n, (nextEnabled s).2, hu, ?_⟩
  rcases hn : nextEnabled s with ⟨i, u⟩
  cases i with
  | access acc data => exact .inl ⟨acc, data, rfl, step_of_access s u acc data hr hn⟩
  | sysclk => exact .inr (.inl ⟨rfl, by simp [step, stepAgents, hr, hn]⟩)
  | reset => exact .inr (.inr ⟨rfl, step_of_next_reset s u hr hn⟩)

/-! ## The mark REFUSED (43_channel_host_ops.md R170) -/

theorem execWrCtrl_refused (data : Word) (s t : State) (h : execWrCtrl data s = .next t) : t.refused = s.refused := by
  obtain ⟨-, ht⟩ | ⟨-, -, ht⟩ := execWrCtrl_cases data s t h <;> exact (congrArg State.refused ht :)

/-- A supported access keeps the mark. -/
theorem exec_host_refused_of_supported (acc : BitVec 9) (data : Word) (s t : State) (hsup : ¬ Unsupported acc)
    (h : exec (decodeHostacc acc data) s = .next t) : t.refused = s.refused := by
  rcases exec_host_cases acc data s with ⟨-, hd⟩ | ⟨-, hd⟩ | ⟨-, hd⟩ | ⟨-, hd⟩ | ⟨-, -, v, he⟩ | ⟨-, -, -, he⟩ | ⟨hu, -⟩
  · rw [hd] at h
    exact execWrCtrl_refused data s t h
  · rw [hd] at h
    obtain ⟨-, rfl⟩ | ⟨-, rfl⟩ := execWrClkdiv_cases data s t h <;> rfl
  · rw [hd] at h
    obtain rfl | ⟨-, rfl⟩ := execWrTxdata_cases data s t h <;> rfl
  · rw [hd] at h
    rw [execWrStatus_next data s t h]
    rfl
  · rw [he] at h
    cases h; rfl
  · rw [he] at h
    cases h; rfl
  · exact absurd hu hsup

/-- Of the accesses, exactly the unsupported ones mark a run. -/
theorem exec_host_refused_iff (acc : BitVec 9) (data : Word) (s t : State) (hr : s.refused = false)
    (h : exec (decodeHostacc acc data) s = .next t) : t.refused = true ↔ Unsupported acc := by
  by_cases hu : Unsupported acc
  · rw [exec_unsupported acc data s hu] at h
    cases h
    exact iff_of_true rfl hu
  · have hkept : t.refused = false := (exec_host_refused_of_supported acc data s t hu h).trans hr
    exact iff_of_false (by simp [hkept]) hu

theorem sysclk_refused (s t : State) (h : sysclk s = .next t) : t.refused = s.refused := by
  rcases sysclk_cases s with ⟨-, he⟩ | ⟨-, -, he⟩ | ⟨-, -, he⟩ <;> rw [he] at h
  · cases h; rfl
  · exact (congrArg State.refused (tick_writes _ t h) :)
  · cases h; rfl

/-! ## Turns answer within the invariants -/

theorem execWrTxdata_answers (data : Word) (s : State) (hq : s.q.length ≤ s.depth) :
    ∃ t, execWrTxdata data s = .next t := by
  obtain hfull | hroom := hq.eq_or_lt
  · exact ⟨_, execWrTxdata_of_full data s hfull⟩
  · exact ⟨_, (execWrTxdata_of_not_full data s hroom.ne).trans (enqueue_of_room data s hroom)⟩

theorem execWrClkdiv_answers (data : Word) (s : State) : ∃ t, execWrClkdiv data s = .next t := by
  unfold execWrClkdiv
  split <;> exact ⟨_, rfl⟩

theorem execWrStatus_answers (data : Word) (s : State) : ∃ t, execWrStatus data s = .next t := by
  unfold execWrStatus
  split <;> exact ⟨_, rfl⟩

/-- A host operation answers on a Channel within its depth, which only a TXDATA write asks for. -/
theorem exec_host_answers (acc : BitVec 9) (data : Word) (s : State) (hq : s.q.length ≤ s.depth) :
    ∃ t, exec (decodeHostacc acc data) s = .next t := by
  rcases exec_host_cases acc data s with ⟨-, hd⟩ | ⟨-, hd⟩ | ⟨-, hd⟩ | ⟨-, hd⟩ | ⟨-, -, v, he⟩ | ⟨-, -, -, he⟩ | ⟨-, he⟩
  · exact ⟨_, by rw [hd]; rfl⟩
  · rw [hd]
    exact execWrClkdiv_answers data s
  · rw [hd]
    exact execWrTxdata_answers data s hq
  · rw [hd]
    exact execWrStatus_answers data s
  · exact ⟨_, he⟩
  · exact ⟨_, he⟩
  · exact ⟨_, he⟩

theorem hostTurn_answers (acc : BitVec 9) (data : Word) (s : State) (hs : InvariantsHold s) :
    ∃ t, hostTurn acc data s = .next t := by
  obtain ⟨-, hchannel, -⟩ := (invariantsOk_iff s).1 hs
  obtain ⟨-, -, hq⟩ := (channelOk_iff s).1 hchannel
  obtain ⟨t, ht⟩ := exec_host_answers acc data s hq
  exact ⟨t, (if_pos hs).trans ht⟩

theorem sysclk_answers (s : State) (hpos : positionOk s = true) : ∃ t, sysclk s = .next t := by
  rcases sysclk_cases s with ⟨-, he⟩ | ⟨-, -, he⟩ | ⟨-, -, he⟩ <;> rw [he]
  · exact ⟨s, rfl⟩
  · obtain ⟨t, ht⟩ := tick_answers (s.setDivcnt 0#16) hpos
    exact ⟨_, ht s.inputs⟩
  · exact ⟨_, rfl⟩

theorem sysclkTurn_answers (s : State) (hs : InvariantsHold s) : ∃ t, sysclkTurn s = .next t := by
  obtain ⟨-, hpos⟩ := dataOk_and_positionOk s hs
  rw [sysclkTurn_of_invariants s hs]
  exact sysclk_answers s hpos

/-! ## Turns fault outside the invariants (10_state.md R41, log entry 8) -/

theorem hostTurn_of_broken (acc : BitVec 9) (data : Word) (s : State) (h : dataOk s = false ∨ positionOk s = false) :
    hostTurn acc data s = .fault .invariant := by
  obtain hd | hp := h
  · simp [hostTurn, invariantsOk, hd]
  · simp [hostTurn, invariantsOk, hp]

theorem sysclkTurn_of_broken_data (s : State) (h : dataOk s = false) : sysclkTurn s = .fault .invariant := by
  simp [sysclkTurn, h]

theorem sysclkTurn_of_broken_position (s : State) (h : positionOk s = false) (ht : tickDue s = false) :
    sysclkTurn s = .fault .invariant := by
  simp [sysclkTurn, h, ht]

/-- A position outside R41 (1) and (5) is a code no rule reaches (40_clock_divider.md R103). -/
theorem tick_of_broken_position (s : State) (h : positionOk s = false) : tick s = .fault .unreachableUstate := by
  rcases mode_cases s.mode with hm | hm | hm | hm
  · have hlt : 5 < s.t.toNat := by simpa [positionOk, hm] using h
    exact tick_of_unreachable_pulse s hm hlt
  · have hlt : 1 < s.t.toNat := by simpa [positionOk, hm] using h
    exact tick_of_unreachable_parc s hm hlt
  · have hlt : 3 < s.t.toNat := by simpa [positionOk, hm] using h
    exact tick_of_unreachable_pars s hm hlt
  · exact tick_mode3 s hm

theorem sysclkTurn_of_broken_position_at_tick (s : State) (hd : dataOk s = true) (h : positionOk s = false)
    (ht : tickDue s = true) : sysclkTurn s = .fault .unreachableUstate :=
  (sysclkTurn_of_tick s hd ht).trans (tick_of_broken_position (s.setDivcnt 0#16) h)

end Sys2Proof.Machine

/-- Settles O12: of what a step can do, only an unsupported access writes the mark. -/
theorem refusedRunsStayRefused : Obligations.RefusedRunsStayRefused := by
  refine ⟨step_of_refused, fun s s' h => ?_⟩
  obtain ⟨hr, is, n, u, rfl, ⟨acc, data, hn, -, -, he⟩ | ⟨hn, -, -, hc⟩ | ⟨hn, rfl⟩⟩ := step_cases s s' h <;> rw [hn]
  · have hmark := exec_host_refused_iff acc data ((s.setInputs is).setInputCount n) s' hr he
    refine ⟨fun hs' => ⟨acc, data, rfl, hmark.1 hs'⟩, ?_⟩
    rintro ⟨acc', data', heq, hu⟩
    cases heq
    exact hmark.2 hu
  · have hkept : s'.refused = false := (sysclk_refused ((s.setInputs is).setInputCount n) s' hc).trans hr
    exact iff_of_false (by simp [hkept]) (by simp)
  · have hkept : (applyReset ((s.setInputs is).setInputCount n)).refused = false := hr
    exact iff_of_false (by simp [hkept]) (by simp)

/-- Settles O47: the invariants, which do not look at the inputs, let the turn of every agent answer. -/
theorem liveStatesAlwaysStep : Obligations.LiveStatesAlwaysStep := by
  intro s ⟨hr, hinv⟩
  obtain ⟨is, n, u, rfl, ⟨acc, data, -, he⟩ | ⟨-, he⟩ | ⟨-, he⟩⟩ := step_turn s hr <;> rw [he]
  · exact hostTurn_answers acc data ((s.setInputs is).setInputCount n) hinv
  · exact sysclkTurn_answers ((s.setInputs is).setInputCount n) hinv
  · exact ⟨_, rfl⟩

/-- Settles O48: the HOST's turn checks all of R41; the SYSCLK agent's leaves the position to a tick, which finds no
rule for it. -/
theorem brokenInvariantFaults : Obligations.BrokenInvariantFaults := by
  intro s hr hnr
  obtain ⟨is, n, u, rfl, ⟨acc, data, hn, he⟩ | ⟨hn, he⟩ | ⟨hn, -⟩⟩ := step_turn s hr
  · rw [he]
    exact ⟨fun hd => hostTurn_of_broken acc data _ (.inl hd), fun hp _ => hostTurn_of_broken acc data _ (.inr hp),
      fun _ _ hnot _ => absurd ⟨acc, data, hn⟩ hnot⟩
  · rw [he, hn]
    refine ⟨fun hd => sysclkTurn_of_broken_data _ hd, fun hp hor => ?_, fun hd hp _ ht => ?_⟩
    · obtain ⟨acc, data, haccess⟩ | ht := hor
      · cases haccess
      · exact sysclkTurn_of_broken_position _ hp ht
    · exact sysclkTurn_of_broken_position_at_tick _ hd hp ht
  · exact absurd hn hnr

end

section
/-! The statements about the host's duties and the reset (70_reset_and_hazards.md): what the drain waits leave on the
outputs, a push that blocks the host, the configuration of the block, and the reset event. -/

open Sys2Proof Sys2Proof.Machine Sys2Proof.Safety

namespace Sys2Proof.Machine

/-! ## Ticks with an empty Channel (70_reset_and_hazards.md R217, R220) -/

/-- The ticks up to the next fetch that finds no payload bit in hand, that tick not included. -/
def ticksToRest (s : State) : Nat := ticksToFetch s.mode s.t + Config.bitTicks * s.bitsLeft.toNat

theorem ticksToDequeue_eq (s : State) : ticksToDequeue s = ticksToRest s + 1 := rfl

theorem ticksToFetch_eq_zero (s : State) (h : positionOk s = true) : ticksToFetch s.mode s.t = 0 → s.t = 0#3 := by
  unfold positionOk at h
  generalize s.mode = m at *
  generalize s.t = t at *
  revert m t
  decide

theorem positionOk_of_sequencerOk (s : State) (hs : sequencerOk s = true) : positionOk s = true := by
  rw [sequencerOk, Bool.and_eq_true] at hs
  exact hs.2

/-- At rest the next tick is a fetch with no payload bit in hand. -/
theorem fetch_of_ticksToRest_zero (s : State) (hs : sequencerOk s = true) (h : ticksToRest s = 0) :
    s.t = 0#3 ∧ s.bitsLeft = 0#5 := by
  simp only [ticksToRest, Config.bitTicks] at h
  exact ⟨ticksToFetch_eq_zero s (positionOk_of_sequencerOk s hs) (by omega), by bv_omega⟩

/-- A tick never adds a Word. -/
theorem tick_keeps_empty (s t : State) (hq : s.q = []) (h : tick s = .next t) : t.q = [] := by
  obtain hsame | ⟨w, -, -, hhead, -⟩ := tick_q s t h
  · exact hsame.trans hq
  · simp [hq] at hhead

/-- A tick that only moves `T` one place along its cycle brings the rest one tick nearer. -/
theorem ticksToRest_of_move (s t : State) (hm : t.mode = s.mode) (hb : t.bitsLeft = s.bitsLeft)
    (hfetch : ticksToFetch s.mode s.t = ticksToFetch s.mode t.t + 1) : ticksToRest t = ticksToRest s - 1 := by
  rw [ticksToRest, ticksToRest, hm, hb]
  omega

/-- A pulse fetch sends a bit in hand, which takes a bit period, or finds the sequencer at rest. -/
theorem execPulseFetch_ticksToRest (s t : State) (hm : s.mode = 0b00#2) (ht : s.t = 0#3) (hq : s.q = [])
    (h : execPulseFetch s = .next t) : ticksToRest t = ticksToRest s - 1 := by
  obtain ⟨hb, rfl⟩ | ⟨w, rest, -, hw, -⟩ | ⟨hb, -, rfl⟩ := execPulseFetch_cases s t h
  · have hbits : (s.bitsLeft - 1#5).toNat + 1 = s.bitsLeft.toNat := by bv_omega
    have hnow : ticksToFetch s.mode s.t = 0 := if_pos ht
    have hnext : ticksToFetch s.mode 1#3 = 5 := by rw [hm]; rfl
    change ticksToFetch s.mode 1#3 + 6 * (s.bitsLeft - 1#5).toNat =
      ticksToFetch s.mode s.t + 6 * s.bitsLeft.toNat - 1
    omega
  · simp [hq] at hw
  · simp [ticksToRest, ticksToFetch, ht, hb]

/-- A parallel fetch that finds no Word leaves the sequencer at rest. -/
theorem fetchParallel_ticksToRest (s t : State) (ht : s.t = 0#3) (hb : s.bitsLeft = 0#5) (hq : s.q = [])
    (h : fetchParallel s = .next t) : ticksToRest t = ticksToRest s - 1 := by
  obtain ⟨w, rest, hw, -⟩ | ⟨-, rfl⟩ := fetchParallel_cases s t h
  · simp [hq] at hw
  · simp [ticksToRest, ticksToFetch, ht, hb]

/-- With an empty Channel every tick brings the rest one tick nearer, and at rest it stays. -/
theorem tick_ticksToRest (s t : State) (hs : sequencerOk s = true) (hq : s.q = []) (h : tick s = .next t) :
    ticksToRest t = ticksToRest s - 1 := by
  rcases tick_cases s t h with ⟨hm, hp⟩ | ⟨hm, hp⟩ | ⟨hm, hp⟩
  · rcases hp with ⟨ht, hf⟩ | ⟨ht, rfl⟩ | ⟨ht, rfl⟩ | ⟨ht, rfl⟩ | ⟨ht, rfl⟩ | ⟨ht, rfl⟩
    · exact execPulseFetch_ticksToRest s t hm ht hq hf
    all_goals exact ticksToRest_of_move s _ rfl rfl (by rw [hm, ht]; rfl)
  · obtain ⟨-, hb, -⟩ := (sequencerOk_iff_of_parallel s (by simp [hm])).1 hs
    rcases hp with ⟨ht, hf⟩ | ⟨ht, rfl⟩
    · exact fetchParallel_ticksToRest s t ht hb hq hf
    · exact ticksToRest_of_move s _ rfl rfl (by rw [hm, ht]; rfl)
  · obtain ⟨-, hb, -⟩ := (sequencerOk_iff_of_parallel s (by simp [hm])).1 hs
    rcases hp with ⟨ht, hf⟩ | ⟨ht, rfl⟩ | ⟨ht, rfl⟩ | ⟨ht, rfl⟩
    · exact fetchParallel_ticksToRest s t ht hb hq hf
    all_goals exact ticksToRest_of_move s _ rfl rfl (by rw [hm, ht]; rfl)

/-- The sequencer's clauses hold and the Channel is empty: what every tick of a drain keeps. -/
def Draining (s : State) : Prop := sequencerOk s = true ∧ s.q = []

theorem draining_of_invariants (s : State) (hs : InvariantsHold s) (hq : s.q = []) : Draining s := by
  obtain ⟨-, -, hseq⟩ := (invariantsOk_iff s).1 hs
  exact ⟨hseq, hq⟩

/-- A tick of a drain answers, keeps MODE, and brings the rest one tick nearer. -/
theorem tick_of_draining (s : State) (h : Draining s) :
    ∃ t : State, tick s = .next t ∧ Draining t ∧ t.mode = s.mode ∧ ticksToRest t = ticksToRest s - 1 := by
  obtain ⟨hs, hq⟩ := h
  obtain ⟨t, hanswers⟩ := tick_answers s (positionOk_of_sequencerOk s hs)
  have htick : tick s = .next (t.setInputs s.inputs) := hanswers s.inputs
  obtain ⟨-, hm, -⟩ := tick_control s _ htick
  exact ⟨_, htick, ⟨tick_keeps_sequencer s _ hs htick, tick_keeps_empty s _ hq htick⟩, hm,
    tick_ticksToRest s _ hs hq htick⟩

/-! ### In PULSE -/

/-- The pulse encoder has nothing to send, and the line is low. -/
def PulseIdle (s : State) : Prop := AtPulseFetch s ∧ s.bitsLeft = 0#5 ∧ s.q = [] ∧ s.pulseOut = false

/-- An idle pulse encoder stalls, which changes nothing. -/
theorem tick_of_pulseIdle (s : State) (h : PulseIdle s) : tick s = .next s := by
  obtain ⟨hfetch, hb, hq, hline⟩ := h
  rw [tick_at_fetch s hfetch, execPulseFetch_of_stall s hb hq, State.setPulseOut, ← hline]

/-- A tick that changes nothing can be repeated. -/
theorem TicksTo.of_fixed {α : Type} {look : State → α} {s : State} (n : Nat) (h : tick s = .next s) :
    TicksTo look n s (List.replicate n (look s)) s := by
  induction n with
  | zero => exact .zero
  | succ n ih => exact ih.cons h

theorem ticksTo_of_pulseIdle (n : Nat) (s : State) (h : PulseIdle s) :
    TicksTo lineLevel n s (List.replicate n false) s := by
  have hstay := TicksTo.of_fixed (look := lineLevel) n (tick_of_pulseIdle s h)
  obtain ⟨-, -, -, hlow⟩ := h
  rwa [show lineLevel s = false from hlow] at hstay

/-- What is seen of a run is one level for each tick. -/
theorem TicksTo.length_eq {α : Type} {look : State → α} {n : Nat} {s u : State} {l : List α}
    (h : TicksTo look n s l u) : l.length = n := by
  induction n generalizing s l with
  | zero =>
    obtain ⟨rfl, -⟩ := h
    rfl
  | succ n ih =>
    obtain ⟨t, l', -, rfl, hrest⟩ := h.of_succ
    rw [List.length_cons, ih hrest]

/-- In PULSE a tick that leaves `T` at 0 is a fetch or the last tick of a bit, and both leave the line low. -/
theorem tick_line_low (s t : State) (hm : s.mode = 0b00#2) (h : tick s = .next t) (ht : t.t = 0#3) :
    t.pulseOut = false := by
  rcases tick_cases s t h with ⟨-, hp⟩ | ⟨hc, -⟩ | ⟨hc, -⟩
  · rcases hp with ⟨-, hf⟩ | ⟨-, rfl⟩ | ⟨-, rfl⟩ | ⟨-, rfl⟩ | ⟨-, rfl⟩ | ⟨-, rfl⟩
    · obtain ⟨-, rfl⟩ | ⟨w, rest, -, -, rfl⟩ | ⟨-, -, rfl⟩ := execPulseFetch_cases s t hf <;> rfl
    · simp at ht
    · simp at ht
    · simp at ht
    · simp at ht
    · rfl
  · simp [hm] at hc
  · simp [hm] at hc

/-- With an empty Channel the pulse encoder is idle once the ticks to rest are over, and after one tick at least. -/
theorem ticksTo_pulseIdle (m : Nat) (s : State) (h : Draining s) (hm : s.mode = 0b00#2)
    (hle : ticksToRest s ≤ m + 1) :
    ∃ l u, TicksTo lineLevel (m + 1) s (l ++ [false]) u ∧ PulseIdle u := by
  induction m generalizing s with
  | zero =>
    obtain ⟨t, htick, hdrain, hmode, hnear⟩ := tick_of_draining s h
    obtain ⟨ht, hb⟩ := fetch_of_ticksToRest_zero t hdrain.1 (by omega)
    have hlow : lineLevel t = false := tick_line_low s t hm htick ht
    refine ⟨[], t, ?_, ⟨hmode.trans hm, ht⟩, hb, hdrain.2, hlow⟩
    rw [← hlow]
    exact TicksTo.zero.cons htick
  | succ m ih =>
    obtain ⟨t, htick, hdrain, hmode, hnear⟩ := tick_of_draining s h
    obtain ⟨l, u, hrun, hu⟩ := ih t hdrain (hmode.trans hm) (by omega)
    exact ⟨lineLevel t :: l, u, hrun.cons htick, hu⟩

/-! ### In the PAR modes -/

/-- The bus at its idle level, with the bit timer at its fetch position (42_parallel_encoder.md R149). -/
def BusIdle (s : State) : Prop := s.t = 0#3 ∧ s.parD = 0#8 ∧ s.parClk = false

/-- The data lines are 0, or will be by the next tick: the Word in `OSR` has 0 in its bits 7:0. -/
def DataClears (s : State) : Prop := (s.t ≠ 1#3 → s.parD = 0#8) ∧ (s.t = 1#3 → parallelData s.osr = 0#8)

theorem tick_keeps_dataClears (s t : State) (hm : s.mode ≠ 0b00#2) (hq : s.q = []) (hd : DataClears s)
    (h : tick s = .next t) : DataClears t := by
  obtain ⟨hlines, hword⟩ := hd
  have hstall : fetchParallel s = .next t → s.t = 0#3 → DataClears t := by
    intro hf ht
    rw [fetchParallel_of_stall s hq] at hf
    cases hf
    exact ⟨hlines, hword⟩
  rcases tick_cases s t h with ⟨hp, -⟩ | ⟨-, hp⟩ | ⟨-, hp⟩
  · exact absurd hp hm
  · rcases hp with ⟨ht, hf⟩ | ⟨ht, rfl⟩
    · exact hstall hf ht
    · exact ⟨fun _ => hword ht, by simp⟩
  · rcases hp with ⟨ht, hf⟩ | ⟨ht, rfl⟩ | ⟨ht, rfl⟩ | ⟨ht, rfl⟩
    · exact hstall hf ht
    · exact ⟨fun _ => hword ht, by simp⟩
    · exact ⟨fun _ => hlines (by simp [ht]), by simp⟩
    · exact ⟨fun _ => hlines (by simp [ht]), by simp⟩

/-- With an empty Channel the bus is idle one fetch after the ticks to rest. -/
theorem ticks_to_busIdle (m : Nat) (s : State) (h : Draining s) (hm : s.mode = 0b01#2 ∨ s.mode = 0b10#2)
    (hd : DataClears s) (hle : ticksToRest s ≤ m) : ∃ u, ticks (m + 1) s = .next u ∧ BusIdle u := by
  induction m generalizing s with
  | zero =>
    obtain ⟨ht, -⟩ := fetch_of_ticksToRest_zero s h.1 (by omega)
    refine ⟨s.setParClk false, ?_, ht, hd.1 (by simp [ht]), rfl⟩
    exact ticks_succ 0 s _ ((tick_at_parallel_fetch s hm ht).trans (fetchParallel_of_stall s h.2))
  | succ m ih =>
    obtain ⟨t, htick, hdrain, hmode, hnear⟩ := tick_of_draining s h
    have hclear : DataClears t := tick_keeps_dataClears s t (by rcases hm with hm | hm <;> simp [hm]) h.2 hd htick
    obtain ⟨u, hrun, hu⟩ := ih t hdrain (by rwa [hmode]) hclear (by omega)
    exact ⟨u, (ticks_succ (m + 1) s t htick).trans hrun, hu⟩

/-- A drain wait that reaches the next fetch leaves the bus idle. -/
theorem drain_leaves_busIdle (n : Nat) (s : State) (h : Draining s) (hm : s.mode = 0b01#2 ∨ s.mode = 0b10#2)
    (hd : DataClears s) (hle : ticksToDequeue s ≤ n) : ∃ u, ticks n s = .next u ∧ BusIdle u := by
  rw [ticksToDequeue_eq] at hle
  obtain ⟨m, rfl⟩ := Nat.exists_eq_add_of_le' hle
  rw [← Nat.add_assoc]
  exact ticks_to_busIdle (m + ticksToRest s) s h hm hd (Nat.le_add_left _ _)

/-! ## A push on a full Channel with EN = 0 (70_reset_and_hazards.md R215) -/

/-- A list with a clock edge and no reset has only operations of the HOST before its first clock edge. -/
theorem split_at_first_edge (l : List Input) (hr : .reset ∉ l) (hc : .sysclk ∈ l) :
    ∃ ops rest, l = ops ++ .sysclk :: rest ∧ ∀ a ∈ ops, ∃ acc data, a = .access acc data := by
  obtain ⟨ops, rest, rfl, hfirst⟩ := List.eq_append_cons_of_mem hc
  refine ⟨ops, rest, rfl, fun a ha => ?_⟩
  cases a with
  | access acc data => exact ⟨acc, data, rfl⟩
  | sysclk => exact absurd ha hfirst
  | reset => exact absurd (List.mem_append_left _ ha) hr

/-- With `EN` = 0 a clock edge that comes while a push holds changes nothing but the inputs listed. -/
theorem step_of_held_disabled (s : State) (data : Word) (ops rest : List Input) (hs : Live s) (hen : s.en = false)
    (hq : s.q.length = s.depth) (ho : ∀ a ∈ ops, ∃ acc data, a = .access acc data)
    (hin : s.inputs = .access 0x148#9 data :: (ops ++ .sysclk :: rest)) :
    step s = .next (s.setInputs (.access 0x148#9 data :: (ops ++ rest))) := by
  obtain ⟨hr, hinv⟩ := hs
  rw [step_of_next_sysclk s _ hr (nextEnabled_of_held s data ops rest .sysclk hq ho (.inl rfl) hin) hinv]
  exact sysclk_of_disabled (s.setInputs _) hen

/-! ## START (70_reset_and_hazards.md R213) -/

@[simp] theorem ctrlEn_ctrlData (m : BitVec 2) (en : Bool) : ctrlEn (ctrlData m en) = en := by
  revert m en; decide

@[simp] theorem ctrlMode_ctrlData (m : BitVec 2) (en : Bool) : ctrlMode (ctrlData m en) = m := by
  revert m en; decide

@[simp] theorem clkdivDiv_clkdivData (d : BitVec 16) : clkdivDiv (clkdivData d) = d :=
  BitVec.extractLsb'_append_eq_right

/-- What a CTRL write of a legal MODE with `EN` = 0 leaves of what the host sets (43_channel_host_ops.md R162). -/
theorem execWrCtrl_of_disabled (data : Word) (s : State) (he : s.en = false) (hm : ctrlMode data ≠ 0b11#2) :
    ∃ t, execWrCtrl data s = .next t ∧ t.en = ctrlEn data ∧ t.mode = ctrlMode data ∧ t.div = s.div ∧
      t.divcnt = (if ctrlEn data then 0#16 else s.divcnt) ∧ t.q = s.q ∧ t.cfgerr = s.cfgerr ∧ t.inputs = s.inputs := by
  have hreq : requestedMode data s = ctrlMode data := requestedMode_of_legal data s hm
  have herr : ctrlError data s = false := by simp [ctrlError, he, hm]
  by_cases hkeep : requestedMode data s = s.mode
  · refine ⟨_, execWrCtrl_same_mode data s he hkeep, rfl, hkeep.symm.trans hreq, rfl, rfl, rfl, ?_, rfl⟩
    simp [herr]
  · exact ⟨_, execWrCtrl_new_mode data s he hkeep, rfl, rfl, rfl, rfl, rfl, rfl, rfl⟩

/-- A supported access other than a TXDATA write is one step of a run, from which the run can go on. -/
theorem run_of_access (s t : State) (acc : BitVec 9) (data : Word) (rest : List Input) (hs : Live s)
    (hin : s.inputs = .access acc data :: rest) (hacc : acc ≠ 0x148#9) (hsup : ¬ Unsupported acc)
    (he : exec (decodeHostacc acc data) (s.setInputs rest) = .next t) :
    Live t ∧ ∀ n, Host.Core.run core (1 + n) s = Host.Core.run core n t := by
  have hstep : step s = .next t := (stepRunsTheHostOperation s acc data rest hs hin fun h => hacc h.1).trans he
  have hmark : t.refused = s.refused := exec_host_refused_of_supported acc data (s.setInputs rest) t hsup he
  exact ⟨⟨hmark.trans hs.1, stepKeepsTheInvariants s t hs.2 hstep⟩, fun n => run_add 1 n s t (run_one s t hstep)⟩

/-- SETMODE and ENABLE as a step of a run with `EN` = 0 (30_encoding.md R91). -/
theorem run_of_ctrl_write (s : State) (m : BitVec 2) (en : Bool) (rest : List Input) (hs : Live s)
    (he : s.en = false) (hm : m ≠ 0b11#2) (hin : s.inputs = .access 0x140#9 (ctrlData m en) :: rest) :
    ∃ t : State, Live t ∧ (∀ n, Host.Core.run core (1 + n) s = Host.Core.run core n t) ∧ t.en = en ∧ t.mode = m ∧
      t.div = s.div ∧ t.divcnt = (if en then 0#16 else s.divcnt) ∧ t.q = s.q ∧ t.cfgerr = s.cfgerr ∧
      t.inputs = rest := by
  obtain ⟨hsup, -, -, -⟩ := not_unsupported_register_write
  obtain ⟨t, hexec, hwritten⟩ :=
    execWrCtrl_of_disabled (ctrlData m en) (s.setInputs rest) he (by rwa [ctrlMode_ctrlData])
  rw [ctrlEn_ctrlData, ctrlMode_ctrlData] at hwritten
  obtain ⟨hlive, hrun⟩ := run_of_access s t _ _ rest hs hin (by decide) hsup hexec
  exact ⟨t, hlive, hrun, hwritten⟩

/-- SETDIV as a step of a run with `EN` = 0 (30_encoding.md R91). -/
theorem run_of_clkdiv_write (s : State) (d : BitVec 16) (rest : List Input) (hs : Live s) (he : s.en = false)
    (hd : d ≠ 0#16) (hin : s.inputs = .access 0x144#9 (clkdivData d) :: rest) :
    ∃ t : State, Live t ∧ (∀ n, Host.Core.run core (1 + n) s = Host.Core.run core n t) ∧ t.en = false ∧ t.div = d ∧
      t.q = s.q ∧ t.cfgerr = s.cfgerr ∧ t.inputs = rest := by
  obtain ⟨-, hsup, -, -⟩ := not_unsupported_register_write
  have hexec := execWrClkdiv_of_legal (clkdivData d) (s.setInputs rest) he (by rwa [clkdivDiv_clkdivData])
  obtain ⟨hlive, hrun⟩ := run_of_access s _ _ _ rest hs hin (by decide) hsup hexec
  exact ⟨_, hlive, hrun, he, clkdivDiv_clkdivData d, rfl, rfl, rfl⟩

/-! ## The configuration while EN = 1 (70_reset_and_hazards.md R214) -/

/-- With `EN` = 1 a host operation writes neither MODE nor `DIV`. -/
theorem exec_host_keeps_configuration (acc : BitVec 9) (data : Word) (s t : State) (hen : s.en = true)
    (h : exec (decodeHostacc acc data) s = .next t) : t.mode = s.mode ∧ t.div = s.div := by
  rcases exec_host_next_cases acc data s t h with ⟨-, he⟩ | ⟨-, he⟩ | ⟨-, he⟩ | ⟨-, he⟩ | ⟨-, -, he⟩
  · rw [execWrCtrl_enabled data s hen] at he
    cases he; exact ⟨rfl, rfl⟩
  · rw [execWrClkdiv_of_error data s (.inl hen)] at he
    cases he; exact ⟨rfl, rfl⟩
  · obtain rfl | ⟨-, rfl⟩ := execWrTxdata_cases data s t he <;> exact ⟨rfl, rfl⟩
  · rw [execWrStatus_next data s t he]
    exact ⟨rfl, rfl⟩
  · rw [he]
    exact ⟨rfl, rfl⟩

theorem sysclk_keeps_configuration (s t : State) (h : sysclk s = .next t) : t.mode = s.mode ∧ t.div = s.div := by
  rcases sysclk_cases s with ⟨-, he⟩ | ⟨-, -, he⟩ | ⟨-, -, he⟩ <;> rw [he] at h
  · cases h; exact ⟨rfl, rfl⟩
  · obtain ⟨-, hm, hd, -⟩ := tick_control (s.setDivcnt 0#16) t h
    exact ⟨hm, hd⟩
  · cases h; exact ⟨rfl, rfl⟩

end Sys2Proof.Machine

/-- Settles O33: the Word in hand is out after 143 ticks at most, the last of them leaves the line low, and from there
every tick stalls. -/
theorem latchWaitLeavesTheLineLow : Obligations.LatchWaitLeavesTheLineLow := by
  intro n s hs hm hq
  have hdrain : Draining s := draining_of_invariants s hs hq
  have hbound : ticksToRest s ≤ 142 + 1 := by
    have hle := ticksToDequeue_le s hdrain.1
    rw [ticksToDequeue_eq, if_pos hm] at hle
    omega
  obtain ⟨l, u, hrun, hu⟩ := ticksTo_pulseIdle 142 s hdrain hm hbound
  have hl : l.length = 142 := by simpa using hrun.length_eq
  obtain ⟨hline, hticks⟩ := hrun.append (ticksTo_of_pulseIdle n u hu)
  obtain ⟨⟨-, ht⟩, hb, hqu, hlow⟩ := hu
  refine ⟨?_, u, hticks, ht, hb, hqu, hlow⟩
  have hseen : lineTrace (143 + n) s = l ++ List.replicate (n + 1) false := hline.trans (List.append_assoc _ _ _)
  rw [hseen, List.drop_left' hl]

/-- Settles O34: in PULSE as O33; in a PAR mode the wait reaches the next fetch, which stalls and lowers the clock, and
the data lines are 0 by then. -/
theorem drainLeavesTheOutputsIdle : Obligations.DrainLeavesTheOutputsIdle := by
  intro n s hs hq
  have hdrain : Draining s := draining_of_invariants s hs hq
  have hbound := ticksToDequeue_le s hdrain.1
  refine ⟨fun hm hn => ?_, fun hm hn hlines hword => ?_, fun hm hn hlines hword => ?_⟩
  · obtain ⟨k, rfl⟩ : ∃ k, n = 143 + k := ⟨n - 143, by omega⟩
    obtain ⟨-, u, hrun, ht, hb, -, hlow⟩ := latchWaitLeavesTheLineLow k s hs hm hq
    exact ⟨u, hrun, ht, hb, hlow⟩
  · have hclear : DataClears s := by
      refine ⟨fun ht => hlines ?_, hword⟩
      have hle := timer_le_of_parc s hs hm
      bv_omega
    exact drain_leaves_busIdle n s hdrain (.inl hm) hclear (hbound.trans (by simpa [hm] using hn))
  · exact drain_leaves_busIdle n s hdrain (.inr hm) ⟨hlines, hword⟩ (hbound.trans (by simpa [hm] using hn))

/-- Settles O35: each clock edge is taken from among the inputs behind the push, and leaves everything else. -/
theorem pushOnAFullDisabledChannelHangs : Obligations.PushOnAFullDisabledChannelHangs := by
  intro k s data l hs hen hq hin hr hk
  induction k generalizing s l with
  | zero =>
    refine ⟨l, ?_, rfl, rfl⟩
    rw [← hin]
    rfl
  | succ k ih =>
    have hmem : .sysclk ∈ l := List.count_pos_iff.1 (by omega)
    obtain ⟨ops, rest, rfl, ho⟩ := split_at_first_edge l hr hmem
    have hstep := step_of_held_disabled s data ops rest hs hen hq ho hin
    have hcount : (ops ++ .sysclk :: rest).count .sysclk = (ops ++ rest).count .sysclk + 1 := by
      simp [List.count_append, Nat.add_assoc]
    obtain ⟨l', hrun, hfilter, hleft⟩ :=
      ih (s.setInputs (.access 0x148#9 data :: (ops ++ rest))) (ops ++ rest) hs hen hq rfl
        (by simpa using hr) (by omega)
    refine ⟨l', ?_, ?_, by omega⟩
    · rw [Nat.add_comm, run_add 1 k s _ (run_one s _ hstep)]
      exact hrun
    · rw [hfilter]
      simp

/-- Settles O37: SETMODE, SETDIV and ENABLE, one after the other; with `EN` = 0 before each, none is an error. -/
theorem startOperationEnablesTheBlock : Obligations.StartOperationEnablesTheBlock := by
  intro s m d rest hs hen hm hd hin
  obtain ⟨a, ha, hruna, hena, -, -, -, hqa, hcfga, hina⟩ := run_of_ctrl_write s m false _ hs hen hm hin
  obtain ⟨b, hb, hrunb, henb, hdivb, hqb, hcfgb, hinb⟩ := run_of_clkdiv_write a d _ ha hena hd hina
  obtain ⟨c, -, hrunc, henc, hmc, hdivc, hcntc, hqc, hcfgc, hinc⟩ := run_of_ctrl_write b m true rest hb henb hm hinb
  refine ⟨c, ?_, henc, hmc, hdivc.trans hdivb, hcntc, hqc.trans (hqb.trans hqa), hcfgc.trans (hcfgb.trans hcfga), hinc⟩
  calc Host.Core.run core 3 s
    _ = Host.Core.run core 2 a := hruna 2
    _ = Host.Core.run core 1 b := hrunb 1
    _ = .next c := hrunc 0

/-- Settles O52: neither a host operation nor a SYSCLK step writes them; the two writes are causes of R31. -/
theorem configurationOnlyWhileDisabled : Obligations.ConfigurationOnlyWhileDisabled := by
  intro s s' h hen hnr
  suffices hkept : s'.mode = s.mode ∧ s'.div = s.div by
    obtain ⟨hm, hd⟩ := hkept
    obtain ⟨hset, -, -⟩ := configErrorHasOnlyItsFourCauses s s' h
    refine ⟨hm, hd, fun ⟨data, hwrite⟩ => hset ⟨data, ?_⟩⟩
    obtain hclkdiv | ⟨hctrl, hne⟩ := hwrite
    · exact .inr ⟨hclkdiv, .inr hen⟩
    · exact .inl ⟨hctrl, .inr ⟨hen, hne⟩⟩
  obtain ⟨-, is, n, u, rfl, ⟨acc, data, -, -, -, he⟩ | ⟨-, -, -, hc⟩ | ⟨hn, -⟩⟩ := step_cases s s' h
  · exact exec_host_keeps_configuration acc data ((s.setInputs is).setInputCount n) s' hen he
  · exact sysclk_keeps_configuration ((s.setInputs is).setInputCount n) s' hc
  · exact absurd hn hnr

/-- Settles O43: the reset is the next enabled input in both cases, and a held push stays first in the list. -/
theorem resetEventClearsTheBlock : Obligations.ResetEventClearsTheBlock := by
  intro s rest hr
  refine ⟨fun hin => ?_, fun data ops hq ho hin => ?_⟩
  · have ht : takeInput s = (.reset, s.setInputs rest) := takeInput_cons s .reset rest hin
    have hn : nextEnabled s = (.reset, s.setInputs rest) := by
      rw [nextEnabled_of_not_held s (by simp [ht]), ht]
    exact step_of_next_reset s _ hr hn
  · exact step_of_next_reset s _ hr (nextEnabled_of_held s data ops rest .reset hq ho (.inr rfl) hin)

end
